-- ==== Sys2Proof/Word.lean ====
section
/-! DEFINITION. The two word types of the core (00_scope.md R9): an 8-bit byte and a 16-bit word.
All arithmetic on them wraps (R9, R167), which is what `BitVec` addition and subtraction do. -/

namespace Sys2Proof

/-- `u8`: a register cell, a memory byte, a port byte. -/
abbrev Byte := BitVec 8

/-- `u16`: a register pair, a memory address, a port number. -/
abbrev Word := BitVec 16

end Sys2Proof
end

