-- ==== Sys2Proof/Machine/Bits.lean ====
section
/-! DEFINITION. Halves of words, sign extension and the decode fields (00_scope.md R9, 30_encoding.md
R102). -/

namespace Sys2Proof.Machine

/-- `w[15:8]`. -/
def hiByte (w : Word) : Byte := w.extractLsb' 8 8

/-- `w[7:0]`. -/
def loByte (w : Word) : Byte := w.extractLsb' 0 8

/-- `{h, l}`: `h * 256 + l` (R9). -/
def mkWord (h l : Byte) : Word := h ++ l

/-- `sext_16(v)`: `v` if `v < 128`, else `v + 0xFF00` (R9, R109). -/
def signExt (v : Byte) : Word := v.signExtend 16

/-- `x = op[7:6]` (R102). -/
def fieldX (op : Byte) : Nat := op.toNat / 64

/-- `y = op[5:3]` (R102). -/
def fieldY (op : Byte) : Nat := op.toNat / 8 % 8

/-- `z = op[2:0]` (R102). -/
def fieldZ (op : Byte) : Nat := op.toNat % 8

/-- The opcode `x*64 + y*8 + z` (R102). -/
def opcode (x y z : Nat) : Byte := BitVec.ofNat 8 (x * 64 + y * 8 + z)

end Sys2Proof.Machine
end

