-- ==== Sys2Proof/Syntax.lean ====
section
/-! DEFINITION. The instructions: one constructor per mnemonic of spec/opcode_table.json, and a second one for
the long forms of `LD (nn),HL` and `LD HL,(nn)` (`ED 63`, `ED 6B`), which the table writes with the mnemonic
of `22` and `2A`. Each comment gives the encoding and the rule of the meaning. An instruction is what its opcode
bytes say: a field holds the opcode bits that no effect depends on (which index prefix stands in front of an
opcode it does not affect, R454; which of the encodings with one meaning it is, R116). The operand bytes `n`,
`nn`, `e`, `d` are no part of it: the meaning reads them at `PC`, as R108 and R431 do (assumption 12). -/

namespace Sys2Proof

/-- The register an index prefix selects: `DD` is `ix`, `FD` is `iy` (47_ddfd.md R430). -/
inductive Idx where
  | ix
  | iy
  deriving DecidableEq, Repr

set_option maxHeartbeats 4000000 in
/-- One instruction, or one prefix row of the table. -/
inductive Instr where
  | nopEd (op : Byte) -- NOP (ED no-op): ED, 178 second bytes, R368
  | neg (y : BitVec 3) -- NEG: ED 44 4C 54 5C 64 6C 74 7C, R358
  | retn (y : BitVec 3) -- RETN: ED 45 55 5D 65 6D 75 7D, R359
  | im0 (y : BitVec 3) -- IM 0: ED 46 4E 66 6E, R361
  | im1 (y : BitVec 3) -- IM 1: ED 56, ED 76, R361
  | im2 (y : BitVec 3) -- IM 2: ED 5E, ED 7E, R361
  | nopPfx (pp : Idx) -- NOP (prefix without effect): DD 00, FD 00, R454
  | ldBCImm16Pfx (pp : Idx) -- LD BC,nn (prefix without effect): DD 01, FD 01, R454
  | ldAtBCAPfx (pp : Idx) -- LD (BC),A (prefix without effect): DD 02, FD 02, R454
  | incBCPfx (pp : Idx) -- INC BC (prefix without effect): DD 03, FD 03, R454
  | incBPfx (pp : Idx) -- INC B (prefix without effect): DD 04, FD 04, R454
  | decBPfx (pp : Idx) -- DEC B (prefix without effect): DD 05, FD 05, R454
  | ldBImmPfx (pp : Idx) -- LD B,n (prefix without effect): DD 06, FD 06, R454
  | rlcaPfx (pp : Idx) -- RLCA (prefix without effect): DD 07, FD 07, R454
  | exAFAFAltPfx (pp : Idx) -- EX AF,AF' (prefix without effect): DD 08, FD 08, R454
  | ldAAtBCPfx (pp : Idx) -- LD A,(BC) (prefix without effect): DD 0A, FD 0A, R454
  | decBCPfx (pp : Idx) -- DEC BC (prefix without effect): DD 0B, FD 0B, R454
  | incCPfx (pp : Idx) -- INC C (prefix without effect): DD 0C, FD 0C, R454
  | decCPfx (pp : Idx) -- DEC C (prefix without effect): DD 0D, FD 0D, R454
  | ldCImmPfx (pp : Idx) -- LD C,n (prefix without effect): DD 0E, FD 0E, R454
  | rrcaPfx (pp : Idx) -- RRCA (prefix without effect): DD 0F, FD 0F, R454
  | djnzRelPfx (pp : Idx) -- DJNZ e (prefix without effect): DD 10, FD 10, R454
  | ldDEImm16Pfx (pp : Idx) -- LD DE,nn (prefix without effect): DD 11, FD 11, R454
  | ldAtDEAPfx (pp : Idx) -- LD (DE),A (prefix without effect): DD 12, FD 12, R454
  | incDEPfx (pp : Idx) -- INC DE (prefix without effect): DD 13, FD 13, R454
  | incDPfx (pp : Idx) -- INC D (prefix without effect): DD 14, FD 14, R454
  | decDPfx (pp : Idx) -- DEC D (prefix without effect): DD 15, FD 15, R454
  | ldDImmPfx (pp : Idx) -- LD D,n (prefix without effect): DD 16, FD 16, R454
  | rlaPfx (pp : Idx) -- RLA (prefix without effect): DD 17, FD 17, R454
  | jrRelPfx (pp : Idx) -- JR e (prefix without effect): DD 18, FD 18, R454
  | ldAAtDEPfx (pp : Idx) -- LD A,(DE) (prefix without effect): DD 1A, FD 1A, R454
  | decDEPfx (pp : Idx) -- DEC DE (prefix without effect): DD 1B, FD 1B, R454
  | incEPfx (pp : Idx) -- INC E (prefix without effect): DD 1C, FD 1C, R454
  | decEPfx (pp : Idx) -- DEC E (prefix without effect): DD 1D, FD 1D, R454
  | ldEImmPfx (pp : Idx) -- LD E,n (prefix without effect): DD 1E, FD 1E, R454
  | rraPfx (pp : Idx) -- RRA (prefix without effect): DD 1F, FD 1F, R454
  | jrNZRelPfx (pp : Idx) -- JR NZ,e (prefix without effect): DD 20, FD 20, R454
  | daaPfx (pp : Idx) -- DAA (prefix without effect): DD 27, FD 27, R454
  | jrZRelPfx (pp : Idx) -- JR Z,e (prefix without effect): DD 28, FD 28, R454
  | cplPfx (pp : Idx) -- CPL (prefix without effect): DD 2F, FD 2F, R454
  | jrNCRelPfx (pp : Idx) -- JR NC,e (prefix without effect): DD 30, FD 30, R454
  | ldSPImm16Pfx (pp : Idx) -- LD SP,nn (prefix without effect): DD 31, FD 31, R454
  | ldAtAbsAPfx (pp : Idx) -- LD (nn),A (prefix without effect): DD 32, FD 32, R454
  | incSPPfx (pp : Idx) -- INC SP (prefix without effect): DD 33, FD 33, R454
  | scfPfx (pp : Idx) -- SCF (prefix without effect): DD 37, FD 37, R454
  | jrCRelPfx (pp : Idx) -- JR C,e (prefix without effect): DD 38, FD 38, R454
  | ldAAtAbsPfx (pp : Idx) -- LD A,(nn) (prefix without effect): DD 3A, FD 3A, R454
  | decSPPfx (pp : Idx) -- DEC SP (prefix without effect): DD 3B, FD 3B, R454
  | incAPfx (pp : Idx) -- INC A (prefix without effect): DD 3C, FD 3C, R454
  | decAPfx (pp : Idx) -- DEC A (prefix without effect): DD 3D, FD 3D, R454
  | ldAImmPfx (pp : Idx) -- LD A,n (prefix without effect): DD 3E, FD 3E, R454
  | ccfPfx (pp : Idx) -- CCF (prefix without effect): DD 3F, FD 3F, R454
  | ldBBPfx (pp : Idx) -- LD B,B (prefix without effect): DD 40, FD 40, R454
  | ldBCPfx (pp : Idx) -- LD B,C (prefix without effect): DD 41, FD 41, R454
  | ldBDPfx (pp : Idx) -- LD B,D (prefix without effect): DD 42, FD 42, R454
  | ldBEPfx (pp : Idx) -- LD B,E (prefix without effect): DD 43, FD 43, R454
  | ldBAPfx (pp : Idx) -- LD B,A (prefix without effect): DD 47, FD 47, R454
  | ldCBPfx (pp : Idx) -- LD C,B (prefix without effect): DD 48, FD 48, R454
  | ldCCPfx (pp : Idx) -- LD C,C (prefix without effect): DD 49, FD 49, R454
  | ldCDPfx (pp : Idx) -- LD C,D (prefix without effect): DD 4A, FD 4A, R454
  | ldCEPfx (pp : Idx) -- LD C,E (prefix without effect): DD 4B, FD 4B, R454
  | ldCAPfx (pp : Idx) -- LD C,A (prefix without effect): DD 4F, FD 4F, R454
  | ldDBPfx (pp : Idx) -- LD D,B (prefix without effect): DD 50, FD 50, R454
  | ldDCPfx (pp : Idx) -- LD D,C (prefix without effect): DD 51, FD 51, R454
  | ldDDPfx (pp : Idx) -- LD D,D (prefix without effect): DD 52, FD 52, R454
  | ldDEPfx (pp : Idx) -- LD D,E (prefix without effect): DD 53, FD 53, R454
  | ldDAPfx (pp : Idx) -- LD D,A (prefix without effect): DD 57, FD 57, R454
  | ldEBPfx (pp : Idx) -- LD E,B (prefix without effect): DD 58, FD 58, R454
  | ldECPfx (pp : Idx) -- LD E,C (prefix without effect): DD 59, FD 59, R454
  | ldEDPfx (pp : Idx) -- LD E,D (prefix without effect): DD 5A, FD 5A, R454
  | ldEEPfx (pp : Idx) -- LD E,E (prefix without effect): DD 5B, FD 5B, R454
  | ldEAPfx (pp : Idx) -- LD E,A (prefix without effect): DD 5F, FD 5F, R454
  | haltPfx (pp : Idx) -- HALT (prefix without effect): DD 76, FD 76, R454
  | ldABPfx (pp : Idx) -- LD A,B (prefix without effect): DD 78, FD 78, R454
  | ldACPfx (pp : Idx) -- LD A,C (prefix without effect): DD 79, FD 79, R454
  | ldADPfx (pp : Idx) -- LD A,D (prefix without effect): DD 7A, FD 7A, R454
  | ldAEPfx (pp : Idx) -- LD A,E (prefix without effect): DD 7B, FD 7B, R454
  | ldAAPfx (pp : Idx) -- LD A,A (prefix without effect): DD 7F, FD 7F, R454
  | addABPfx (pp : Idx) -- ADD A,B (prefix without effect): DD 80, FD 80, R454
  | addACPfx (pp : Idx) -- ADD A,C (prefix without effect): DD 81, FD 81, R454
  | addADPfx (pp : Idx) -- ADD A,D (prefix without effect): DD 82, FD 82, R454
  | addAEPfx (pp : Idx) -- ADD A,E (prefix without effect): DD 83, FD 83, R454
  | addAAPfx (pp : Idx) -- ADD A,A (prefix without effect): DD 87, FD 87, R454
  | adcABPfx (pp : Idx) -- ADC A,B (prefix without effect): DD 88, FD 88, R454
  | adcACPfx (pp : Idx) -- ADC A,C (prefix without effect): DD 89, FD 89, R454
  | adcADPfx (pp : Idx) -- ADC A,D (prefix without effect): DD 8A, FD 8A, R454
  | adcAEPfx (pp : Idx) -- ADC A,E (prefix without effect): DD 8B, FD 8B, R454
  | adcAAPfx (pp : Idx) -- ADC A,A (prefix without effect): DD 8F, FD 8F, R454
  | subBPfx (pp : Idx) -- SUB B (prefix without effect): DD 90, FD 90, R454
  | subCPfx (pp : Idx) -- SUB C (prefix without effect): DD 91, FD 91, R454
  | subDPfx (pp : Idx) -- SUB D (prefix without effect): DD 92, FD 92, R454
  | subEPfx (pp : Idx) -- SUB E (prefix without effect): DD 93, FD 93, R454
  | subAPfx (pp : Idx) -- SUB A (prefix without effect): DD 97, FD 97, R454
  | sbcABPfx (pp : Idx) -- SBC A,B (prefix without effect): DD 98, FD 98, R454
  | sbcACPfx (pp : Idx) -- SBC A,C (prefix without effect): DD 99, FD 99, R454
  | sbcADPfx (pp : Idx) -- SBC A,D (prefix without effect): DD 9A, FD 9A, R454
  | sbcAEPfx (pp : Idx) -- SBC A,E (prefix without effect): DD 9B, FD 9B, R454
  | sbcAAPfx (pp : Idx) -- SBC A,A (prefix without effect): DD 9F, FD 9F, R454
  | andBPfx (pp : Idx) -- AND B (prefix without effect): DD A0, FD A0, R454
  | andCPfx (pp : Idx) -- AND C (prefix without effect): DD A1, FD A1, R454
  | andDPfx (pp : Idx) -- AND D (prefix without effect): DD A2, FD A2, R454
  | andEPfx (pp : Idx) -- AND E (prefix without effect): DD A3, FD A3, R454
  | andAPfx (pp : Idx) -- AND A (prefix without effect): DD A7, FD A7, R454
  | xorBPfx (pp : Idx) -- XOR B (prefix without effect): DD A8, FD A8, R454
  | xorCPfx (pp : Idx) -- XOR C (prefix without effect): DD A9, FD A9, R454
  | xorDPfx (pp : Idx) -- XOR D (prefix without effect): DD AA, FD AA, R454
  | xorEPfx (pp : Idx) -- XOR E (prefix without effect): DD AB, FD AB, R454
  | xorAPfx (pp : Idx) -- XOR A (prefix without effect): DD AF, FD AF, R454
  | orBPfx (pp : Idx) -- OR B (prefix without effect): DD B0, FD B0, R454
  | orCPfx (pp : Idx) -- OR C (prefix without effect): DD B1, FD B1, R454
  | orDPfx (pp : Idx) -- OR D (prefix without effect): DD B2, FD B2, R454
  | orEPfx (pp : Idx) -- OR E (prefix without effect): DD B3, FD B3, R454
  | orAPfx (pp : Idx) -- OR A (prefix without effect): DD B7, FD B7, R454
  | cpBPfx (pp : Idx) -- CP B (prefix without effect): DD B8, FD B8, R454
  | cpCPfx (pp : Idx) -- CP C (prefix without effect): DD B9, FD B9, R454
  | cpDPfx (pp : Idx) -- CP D (prefix without effect): DD BA, FD BA, R454
  | cpEPfx (pp : Idx) -- CP E (prefix without effect): DD BB, FD BB, R454
  | cpAPfx (pp : Idx) -- CP A (prefix without effect): DD BF, FD BF, R454
  | retNZPfx (pp : Idx) -- RET NZ (prefix without effect): DD C0, FD C0, R454
  | popBCPfx (pp : Idx) -- POP BC (prefix without effect): DD C1, FD C1, R454
  | jpNZImm16Pfx (pp : Idx) -- JP NZ,nn (prefix without effect): DD C2, FD C2, R454
  | jpImm16Pfx (pp : Idx) -- JP nn (prefix without effect): DD C3, FD C3, R454
  | callNZImm16Pfx (pp : Idx) -- CALL NZ,nn (prefix without effect): DD C4, FD C4, R454
  | pushBCPfx (pp : Idx) -- PUSH BC (prefix without effect): DD C5, FD C5, R454
  | addAImmPfx (pp : Idx) -- ADD A,n (prefix without effect): DD C6, FD C6, R454
  | rst00Pfx (pp : Idx) -- RST 00h (prefix without effect): DD C7, FD C7, R454
  | retZPfx (pp : Idx) -- RET Z (prefix without effect): DD C8, FD C8, R454
  | retPfx (pp : Idx) -- RET (prefix without effect): DD C9, FD C9, R454
  | jpZImm16Pfx (pp : Idx) -- JP Z,nn (prefix without effect): DD CA, FD CA, R454
  | callZImm16Pfx (pp : Idx) -- CALL Z,nn (prefix without effect): DD CC, FD CC, R454
  | callImm16Pfx (pp : Idx) -- CALL nn (prefix without effect): DD CD, FD CD, R454
  | adcAImmPfx (pp : Idx) -- ADC A,n (prefix without effect): DD CE, FD CE, R454
  | rst08Pfx (pp : Idx) -- RST 08h (prefix without effect): DD CF, FD CF, R454
  | retNCPfx (pp : Idx) -- RET NC (prefix without effect): DD D0, FD D0, R454
  | popDEPfx (pp : Idx) -- POP DE (prefix without effect): DD D1, FD D1, R454
  | jpNCImm16Pfx (pp : Idx) -- JP NC,nn (prefix without effect): DD D2, FD D2, R454
  | outAtImmAPfx (pp : Idx) -- OUT (n),A (prefix without effect): DD D3, FD D3, R454
  | callNCImm16Pfx (pp : Idx) -- CALL NC,nn (prefix without effect): DD D4, FD D4, R454
  | pushDEPfx (pp : Idx) -- PUSH DE (prefix without effect): DD D5, FD D5, R454
  | subImmPfx (pp : Idx) -- SUB n (prefix without effect): DD D6, FD D6, R454
  | rst10Pfx (pp : Idx) -- RST 10h (prefix without effect): DD D7, FD D7, R454
  | retCPfx (pp : Idx) -- RET C (prefix without effect): DD D8, FD D8, R454
  | exxPfx (pp : Idx) -- EXX (prefix without effect): DD D9, FD D9, R454
  | jpCImm16Pfx (pp : Idx) -- JP C,nn (prefix without effect): DD DA, FD DA, R454
  | inAAtImmPfx (pp : Idx) -- IN A,(n) (prefix without effect): DD DB, FD DB, R454
  | callCImm16Pfx (pp : Idx) -- CALL C,nn (prefix without effect): DD DC, FD DC, R454
  | prefixDDChain (pp : Idx) -- prefix DD (chain): DD DD, FD DD, R455
  | sbcAImmPfx (pp : Idx) -- SBC A,n (prefix without effect): DD DE, FD DE, R454
  | rst18Pfx (pp : Idx) -- RST 18h (prefix without effect): DD DF, FD DF, R454
  | retPOPfx (pp : Idx) -- RET PO (prefix without effect): DD E0, FD E0, R454
  | jpPOImm16Pfx (pp : Idx) -- JP PO,nn (prefix without effect): DD E2, FD E2, R454
  | callPOImm16Pfx (pp : Idx) -- CALL PO,nn (prefix without effect): DD E4, FD E4, R454
  | andImmPfx (pp : Idx) -- AND n (prefix without effect): DD E6, FD E6, R454
  | rst20Pfx (pp : Idx) -- RST 20h (prefix without effect): DD E7, FD E7, R454
  | retPEPfx (pp : Idx) -- RET PE (prefix without effect): DD E8, FD E8, R454
  | jpPEImm16Pfx (pp : Idx) -- JP PE,nn (prefix without effect): DD EA, FD EA, R454
  | exDEHLPfx (pp : Idx) -- EX DE,HL (prefix without effect): DD EB, FD EB, R454
  | callPEImm16Pfx (pp : Idx) -- CALL PE,nn (prefix without effect): DD EC, FD EC, R454
  | prefixEDPfx (pp : Idx) -- prefix ED (index prefix without effect): DD ED, FD ED, R454
  | xorImmPfx (pp : Idx) -- XOR n (prefix without effect): DD EE, FD EE, R454
  | rst28Pfx (pp : Idx) -- RST 28h (prefix without effect): DD EF, FD EF, R454
  | retPPfx (pp : Idx) -- RET P (prefix without effect): DD F0, FD F0, R454
  | popAFPfx (pp : Idx) -- POP AF (prefix without effect): DD F1, FD F1, R454
  | jpPImm16Pfx (pp : Idx) -- JP P,nn (prefix without effect): DD F2, FD F2, R454
  | diPfx (pp : Idx) -- DI (prefix without effect): DD F3, FD F3, R454
  | callPImm16Pfx (pp : Idx) -- CALL P,nn (prefix without effect): DD F4, FD F4, R454
  | pushAFPfx (pp : Idx) -- PUSH AF (prefix without effect): DD F5, FD F5, R454
  | orImmPfx (pp : Idx) -- OR n (prefix without effect): DD F6, FD F6, R454
  | rst30Pfx (pp : Idx) -- RST 30h (prefix without effect): DD F7, FD F7, R454
  | retMPfx (pp : Idx) -- RET M (prefix without effect): DD F8, FD F8, R454
  | jpMImm16Pfx (pp : Idx) -- JP M,nn (prefix without effect): DD FA, FD FA, R454
  | eiPfx (pp : Idx) -- EI (prefix without effect): DD FB, FD FB, R454
  | callMImm16Pfx (pp : Idx) -- CALL M,nn (prefix without effect): DD FC, FD FC, R454
  | prefixFDChain (pp : Idx) -- prefix FD (chain): DD FD, FD FD, R455
  | cpImmPfx (pp : Idx) -- CP n (prefix without effect): DD FE, FD FE, R454
  | rst38Pfx (pp : Idx) -- RST 38h (prefix without effect): DD FF, FD FF, R454
  | bit0AtIXd (z : BitVec 3) -- BIT 0,(IX+d): DD CB d 40..47, R493
  | bit1AtIXd (z : BitVec 3) -- BIT 1,(IX+d): DD CB d 48..4F, R493
  | bit2AtIXd (z : BitVec 3) -- BIT 2,(IX+d): DD CB d 50..57, R493
  | bit3AtIXd (z : BitVec 3) -- BIT 3,(IX+d): DD CB d 58..5F, R493
  | bit4AtIXd (z : BitVec 3) -- BIT 4,(IX+d): DD CB d 60..67, R493
  | bit5AtIXd (z : BitVec 3) -- BIT 5,(IX+d): DD CB d 68..6F, R493
  | bit6AtIXd (z : BitVec 3) -- BIT 6,(IX+d): DD CB d 70..77, R493
  | bit7AtIXd (z : BitVec 3) -- BIT 7,(IX+d): DD CB d 78..7F, R493
  | bit0AtIYd (z : BitVec 3) -- BIT 0,(IY+d): FD CB d 40..47, R493
  | bit1AtIYd (z : BitVec 3) -- BIT 1,(IY+d): FD CB d 48..4F, R493
  | bit2AtIYd (z : BitVec 3) -- BIT 2,(IY+d): FD CB d 50..57, R493
  | bit3AtIYd (z : BitVec 3) -- BIT 3,(IY+d): FD CB d 58..5F, R493
  | bit4AtIYd (z : BitVec 3) -- BIT 4,(IY+d): FD CB d 60..67, R493
  | bit5AtIYd (z : BitVec 3) -- BIT 5,(IY+d): FD CB d 68..6F, R493
  | bit6AtIYd (z : BitVec 3) -- BIT 6,(IY+d): FD CB d 70..77, R493
  | bit7AtIYd (z : BitVec 3) -- BIT 7,(IY+d): FD CB d 78..7F, R493
  | nop -- NOP: 00, R280
  | ldBCImm16 -- LD BC,nn: 01, R193
  | ldAtBCA -- LD (BC),A: 02, R190
  | incBC -- INC BC: 03, R242
  | incB -- INC B: 04, R238
  | decB -- DEC B: 05, R240
  | ldBImm -- LD B,n: 06, R183
  | rlca -- RLCA: 07, R245
  | exAFAFAlt -- EX AF,AF': 08, R199
  | addHLBC -- ADD HL,BC: 09, R244
  | ldAAtBC -- LD A,(BC): 0A, R187
  | decBC -- DEC BC: 0B, R243
  | incC -- INC C: 0C, R238
  | decC -- DEC C: 0D, R240
  | ldCImm -- LD C,n: 0E, R183
  | rrca -- RRCA: 0F, R246
  | djnzRel -- DJNZ e: 10, R286
  | ldDEImm16 -- LD DE,nn: 11, R193
  | ldAtDEA -- LD (DE),A: 12, R191
  | incDE -- INC DE: 13, R242
  | incD -- INC D: 14, R238
  | decD -- DEC D: 15, R240
  | ldDImm -- LD D,n: 16, R183
  | rla -- RLA: 17, R247
  | jrRel -- JR e: 18, R284
  | addHLDE -- ADD HL,DE: 19, R244
  | ldAAtDE -- LD A,(DE): 1A, R188
  | decDE -- DEC DE: 1B, R243
  | incE -- INC E: 1C, R238
  | decE -- DEC E: 1D, R240
  | ldEImm -- LD E,n: 1E, R183
  | rra -- RRA: 1F, R248
  | jrNZRel -- JR NZ,e: 20, R285
  | ldHLImm16 -- LD HL,nn: 21, R193
  | ldAtAbsHL -- LD (nn),HL: 22, R195
  | incHL -- INC HL: 23, R242
  | incH -- INC H: 24, R238
  | decH -- DEC H: 25, R240
  | ldHImm -- LD H,n: 26, R183
  | daa -- DAA: 27, R249
  | jrZRel -- JR Z,e: 28, R285
  | addHLHL -- ADD HL,HL: 29, R244
  | ldHLAtAbs -- LD HL,(nn): 2A, R194
  | decHL -- DEC HL: 2B, R243
  | incL -- INC L: 2C, R238
  | decL -- DEC L: 2D, R240
  | ldLImm -- LD L,n: 2E, R183
  | cpl -- CPL: 2F, R250
  | jrNCRel -- JR NC,e: 30, R285
  | ldSPImm16 -- LD SP,nn: 31, R193
  | ldAtAbsA -- LD (nn),A: 32, R192
  | incSP -- INC SP: 33, R242
  | incAtHL -- INC (HL): 34, R239
  | decAtHL -- DEC (HL): 35, R241
  | ldAtHLImm -- LD (HL),n: 36, R186
  | scf -- SCF: 37, R251
  | jrCRel -- JR C,e: 38, R285
  | addHLSP -- ADD HL,SP: 39, R244
  | ldAAtAbs -- LD A,(nn): 3A, R189
  | decSP -- DEC SP: 3B, R243
  | incA -- INC A: 3C, R238
  | decA -- DEC A: 3D, R240
  | ldAImm -- LD A,n: 3E, R183
  | ccf -- CCF: 3F, R252
  | ldBB -- LD B,B: 40, R182
  | ldBC -- LD B,C: 41, R182
  | ldBD -- LD B,D: 42, R182
  | ldBE -- LD B,E: 43, R182
  | ldBH -- LD B,H: 44, R182
  | ldBL -- LD B,L: 45, R182
  | ldBAtHL -- LD B,(HL): 46, R184
  | ldBA -- LD B,A: 47, R182
  | ldCB -- LD C,B: 48, R182
  | ldCC -- LD C,C: 49, R182
  | ldCD -- LD C,D: 4A, R182
  | ldCE -- LD C,E: 4B, R182
  | ldCH -- LD C,H: 4C, R182
  | ldCL -- LD C,L: 4D, R182
  | ldCAtHL -- LD C,(HL): 4E, R184
  | ldCA -- LD C,A: 4F, R182
  | ldDB -- LD D,B: 50, R182
  | ldDC -- LD D,C: 51, R182
  | ldDD -- LD D,D: 52, R182
  | ldDE -- LD D,E: 53, R182
  | ldDH -- LD D,H: 54, R182
  | ldDL -- LD D,L: 55, R182
  | ldDAtHL -- LD D,(HL): 56, R184
  | ldDA -- LD D,A: 57, R182
  | ldEB -- LD E,B: 58, R182
  | ldEC -- LD E,C: 59, R182
  | ldED -- LD E,D: 5A, R182
  | ldEE -- LD E,E: 5B, R182
  | ldEH -- LD E,H: 5C, R182
  | ldEL -- LD E,L: 5D, R182
  | ldEAtHL -- LD E,(HL): 5E, R184
  | ldEA -- LD E,A: 5F, R182
  | ldHB -- LD H,B: 60, R182
  | ldHC -- LD H,C: 61, R182
  | ldHD -- LD H,D: 62, R182
  | ldHE -- LD H,E: 63, R182
  | ldHH -- LD H,H: 64, R182
  | ldHL -- LD H,L: 65, R182
  | ldHAtHL -- LD H,(HL): 66, R184
  | ldHA -- LD H,A: 67, R182
  | ldLB -- LD L,B: 68, R182
  | ldLC -- LD L,C: 69, R182
  | ldLD -- LD L,D: 6A, R182
  | ldLE -- LD L,E: 6B, R182
  | ldLH -- LD L,H: 6C, R182
  | ldLL -- LD L,L: 6D, R182
  | ldLAtHL -- LD L,(HL): 6E, R184
  | ldLA -- LD L,A: 6F, R182
  | ldAtHLB -- LD (HL),B: 70, R185
  | ldAtHLC -- LD (HL),C: 71, R185
  | ldAtHLD -- LD (HL),D: 72, R185
  | ldAtHLE -- LD (HL),E: 73, R185
  | ldAtHLH -- LD (HL),H: 74, R185
  | ldAtHLL -- LD (HL),L: 75, R185
  | halt -- HALT: 76, R292
  | ldAtHLA -- LD (HL),A: 77, R185
  | ldAB -- LD A,B: 78, R182
  | ldAC -- LD A,C: 79, R182
  | ldAD -- LD A,D: 7A, R182
  | ldAE -- LD A,E: 7B, R182
  | ldAH -- LD A,H: 7C, R182
  | ldAL -- LD A,L: 7D, R182
  | ldAAtHL -- LD A,(HL): 7E, R184
  | ldAA -- LD A,A: 7F, R182
  | addAB -- ADD A,B: 80, R230
  | addAC -- ADD A,C: 81, R230
  | addAD -- ADD A,D: 82, R230
  | addAE -- ADD A,E: 83, R230
  | addAH -- ADD A,H: 84, R230
  | addAL -- ADD A,L: 85, R230
  | addAAtHL -- ADD A,(HL): 86, R230
  | addAA -- ADD A,A: 87, R230
  | adcAB -- ADC A,B: 88, R231
  | adcAC -- ADC A,C: 89, R231
  | adcAD -- ADC A,D: 8A, R231
  | adcAE -- ADC A,E: 8B, R231
  | adcAH -- ADC A,H: 8C, R231
  | adcAL -- ADC A,L: 8D, R231
  | adcAAtHL -- ADC A,(HL): 8E, R231
  | adcAA -- ADC A,A: 8F, R231
  | subB -- SUB B: 90, R232
  | subC -- SUB C: 91, R232
  | subD -- SUB D: 92, R232
  | subE -- SUB E: 93, R232
  | subH -- SUB H: 94, R232
  | subL -- SUB L: 95, R232
  | subAtHL -- SUB (HL): 96, R232
  | subA -- SUB A: 97, R232
  | sbcAB -- SBC A,B: 98, R233
  | sbcAC -- SBC A,C: 99, R233
  | sbcAD -- SBC A,D: 9A, R233
  | sbcAE -- SBC A,E: 9B, R233
  | sbcAH -- SBC A,H: 9C, R233
  | sbcAL -- SBC A,L: 9D, R233
  | sbcAAtHL -- SBC A,(HL): 9E, R233
  | sbcAA -- SBC A,A: 9F, R233
  | andB -- AND B: A0, R234
  | andC -- AND C: A1, R234
  | andD -- AND D: A2, R234
  | andE -- AND E: A3, R234
  | andH -- AND H: A4, R234
  | andL -- AND L: A5, R234
  | andAtHL -- AND (HL): A6, R234
  | andA -- AND A: A7, R234
  | xorB -- XOR B: A8, R235
  | xorC -- XOR C: A9, R235
  | xorD -- XOR D: AA, R235
  | xorE -- XOR E: AB, R235
  | xorH -- XOR H: AC, R235
  | xorL -- XOR L: AD, R235
  | xorAtHL -- XOR (HL): AE, R235
  | xorA -- XOR A: AF, R235
  | orB -- OR B: B0, R236
  | orC -- OR C: B1, R236
  | orD -- OR D: B2, R236
  | orE -- OR E: B3, R236
  | orH -- OR H: B4, R236
  | orL -- OR L: B5, R236
  | orAtHL -- OR (HL): B6, R236
  | orA -- OR A: B7, R236
  | cpB -- CP B: B8, R237
  | cpC -- CP C: B9, R237
  | cpD -- CP D: BA, R237
  | cpE -- CP E: BB, R237
  | cpH -- CP H: BC, R237
  | cpL -- CP L: BD, R237
  | cpAtHL -- CP (HL): BE, R237
  | cpA -- CP A: BF, R237
  | retNZ -- RET NZ: C0, R290
  | popBC -- POP BC: C1, R198
  | jpNZImm16 -- JP NZ,nn: C2, R282
  | jpImm16 -- JP nn: C3, R281
  | callNZImm16 -- CALL NZ,nn: C4, R288
  | pushBC -- PUSH BC: C5, R197
  | addAImm -- ADD A,n: C6, R230
  | rst00 -- RST 00h: C7, R291
  | retZ -- RET Z: C8, R290
  | ret -- RET: C9, R289
  | jpZImm16 -- JP Z,nn: CA, R282
  | prefixCB -- prefix CB: CB, R103
  | callZImm16 -- CALL Z,nn: CC, R288
  | callImm16 -- CALL nn: CD, R287
  | adcAImm -- ADC A,n: CE, R231
  | rst08 -- RST 08h: CF, R291
  | retNC -- RET NC: D0, R290
  | popDE -- POP DE: D1, R198
  | jpNCImm16 -- JP NC,nn: D2, R282
  | outAtImmA -- OUT (n),A: D3, R204
  | callNCImm16 -- CALL NC,nn: D4, R288
  | pushDE -- PUSH DE: D5, R197
  | subImm -- SUB n: D6, R232
  | rst10 -- RST 10h: D7, R291
  | retC -- RET C: D8, R290
  | exx -- EXX: D9, R200
  | jpCImm16 -- JP C,nn: DA, R282
  | inAAtImm -- IN A,(n): DB, R203
  | callCImm16 -- CALL C,nn: DC, R288
  | prefixDD -- prefix DD: DD, R103
  | sbcAImm -- SBC A,n: DE, R233
  | rst18 -- RST 18h: DF, R291
  | retPO -- RET PO: E0, R290
  | popHL -- POP HL: E1, R198
  | jpPOImm16 -- JP PO,nn: E2, R282
  | exAtSPHL -- EX (SP),HL: E3, R202
  | callPOImm16 -- CALL PO,nn: E4, R288
  | pushHL -- PUSH HL: E5, R197
  | andImm -- AND n: E6, R234
  | rst20 -- RST 20h: E7, R291
  | retPE -- RET PE: E8, R290
  | jpAtHL -- JP (HL): E9, R283
  | jpPEImm16 -- JP PE,nn: EA, R282
  | exDEHL -- EX DE,HL: EB, R201
  | callPEImm16 -- CALL PE,nn: EC, R288
  | prefixED -- prefix ED: ED, R103
  | xorImm -- XOR n: EE, R235
  | rst28 -- RST 28h: EF, R291
  | retP -- RET P: F0, R290
  | popAF -- POP AF: F1, R198
  | jpPImm16 -- JP P,nn: F2, R282
  | di -- DI: F3, R293
  | callPImm16 -- CALL P,nn: F4, R288
  | pushAF -- PUSH AF: F5, R197
  | orImm -- OR n: F6, R236
  | rst30 -- RST 30h: F7, R291
  | retM -- RET M: F8, R290
  | ldSPHL -- LD SP,HL: F9, R196
  | jpMImm16 -- JP M,nn: FA, R282
  | ei -- EI: FB, R294
  | callMImm16 -- CALL M,nn: FC, R288
  | prefixFD -- prefix FD: FD, R103
  | cpImm -- CP n: FE, R237
  | rst38 -- RST 38h: FF, R291
  | rlcB -- RLC B: CB 00, R331
  | rlcC -- RLC C: CB 01, R331
  | rlcD -- RLC D: CB 02, R331
  | rlcE -- RLC E: CB 03, R331
  | rlcH -- RLC H: CB 04, R331
  | rlcL -- RLC L: CB 05, R331
  | rlcAtHL -- RLC (HL): CB 06, R331
  | rlcA -- RLC A: CB 07, R331
  | rrcB -- RRC B: CB 08, R332
  | rrcC -- RRC C: CB 09, R332
  | rrcD -- RRC D: CB 0A, R332
  | rrcE -- RRC E: CB 0B, R332
  | rrcH -- RRC H: CB 0C, R332
  | rrcL -- RRC L: CB 0D, R332
  | rrcAtHL -- RRC (HL): CB 0E, R332
  | rrcA -- RRC A: CB 0F, R332
  | rlB -- RL B: CB 10, R333
  | rlC -- RL C: CB 11, R333
  | rlD -- RL D: CB 12, R333
  | rlE -- RL E: CB 13, R333
  | rlH -- RL H: CB 14, R333
  | rlL -- RL L: CB 15, R333
  | rlAtHL -- RL (HL): CB 16, R333
  | rlA -- RL A: CB 17, R333
  | rrB -- RR B: CB 18, R334
  | rrC -- RR C: CB 19, R334
  | rrD -- RR D: CB 1A, R334
  | rrE -- RR E: CB 1B, R334
  | rrH -- RR H: CB 1C, R334
  | rrL -- RR L: CB 1D, R334
  | rrAtHL -- RR (HL): CB 1E, R334
  | rrA -- RR A: CB 1F, R334
  | slaB -- SLA B: CB 20, R335
  | slaC -- SLA C: CB 21, R335
  | slaD -- SLA D: CB 22, R335
  | slaE -- SLA E: CB 23, R335
  | slaH -- SLA H: CB 24, R335
  | slaL -- SLA L: CB 25, R335
  | slaAtHL -- SLA (HL): CB 26, R335
  | slaA -- SLA A: CB 27, R335
  | sraB -- SRA B: CB 28, R336
  | sraC -- SRA C: CB 29, R336
  | sraD -- SRA D: CB 2A, R336
  | sraE -- SRA E: CB 2B, R336
  | sraH -- SRA H: CB 2C, R336
  | sraL -- SRA L: CB 2D, R336
  | sraAtHL -- SRA (HL): CB 2E, R336
  | sraA -- SRA A: CB 2F, R336
  | sllB -- SLL B: CB 30, R337
  | sllC -- SLL C: CB 31, R337
  | sllD -- SLL D: CB 32, R337
  | sllE -- SLL E: CB 33, R337
  | sllH -- SLL H: CB 34, R337
  | sllL -- SLL L: CB 35, R337
  | sllAtHL -- SLL (HL): CB 36, R337
  | sllA -- SLL A: CB 37, R337
  | srlB -- SRL B: CB 38, R338
  | srlC -- SRL C: CB 39, R338
  | srlD -- SRL D: CB 3A, R338
  | srlE -- SRL E: CB 3B, R338
  | srlH -- SRL H: CB 3C, R338
  | srlL -- SRL L: CB 3D, R338
  | srlAtHL -- SRL (HL): CB 3E, R338
  | srlA -- SRL A: CB 3F, R338
  | bit0B -- BIT 0,B: CB 40, R339
  | bit0C -- BIT 0,C: CB 41, R339
  | bit0D -- BIT 0,D: CB 42, R339
  | bit0E -- BIT 0,E: CB 43, R339
  | bit0H -- BIT 0,H: CB 44, R339
  | bit0L -- BIT 0,L: CB 45, R339
  | bit0AtHL -- BIT 0,(HL): CB 46, R340
  | bit0A -- BIT 0,A: CB 47, R339
  | bit1B -- BIT 1,B: CB 48, R339
  | bit1C -- BIT 1,C: CB 49, R339
  | bit1D -- BIT 1,D: CB 4A, R339
  | bit1E -- BIT 1,E: CB 4B, R339
  | bit1H -- BIT 1,H: CB 4C, R339
  | bit1L -- BIT 1,L: CB 4D, R339
  | bit1AtHL -- BIT 1,(HL): CB 4E, R340
  | bit1A -- BIT 1,A: CB 4F, R339
  | bit2B -- BIT 2,B: CB 50, R339
  | bit2C -- BIT 2,C: CB 51, R339
  | bit2D -- BIT 2,D: CB 52, R339
  | bit2E -- BIT 2,E: CB 53, R339
  | bit2H -- BIT 2,H: CB 54, R339
  | bit2L -- BIT 2,L: CB 55, R339
  | bit2AtHL -- BIT 2,(HL): CB 56, R340
  | bit2A -- BIT 2,A: CB 57, R339
  | bit3B -- BIT 3,B: CB 58, R339
  | bit3C -- BIT 3,C: CB 59, R339
  | bit3D -- BIT 3,D: CB 5A, R339
  | bit3E -- BIT 3,E: CB 5B, R339
  | bit3H -- BIT 3,H: CB 5C, R339
  | bit3L -- BIT 3,L: CB 5D, R339
  | bit3AtHL -- BIT 3,(HL): CB 5E, R340
  | bit3A -- BIT 3,A: CB 5F, R339
  | bit4B -- BIT 4,B: CB 60, R339
  | bit4C -- BIT 4,C: CB 61, R339
  | bit4D -- BIT 4,D: CB 62, R339
  | bit4E -- BIT 4,E: CB 63, R339
  | bit4H -- BIT 4,H: CB 64, R339
  | bit4L -- BIT 4,L: CB 65, R339
  | bit4AtHL -- BIT 4,(HL): CB 66, R340
  | bit4A -- BIT 4,A: CB 67, R339
  | bit5B -- BIT 5,B: CB 68, R339
  | bit5C -- BIT 5,C: CB 69, R339
  | bit5D -- BIT 5,D: CB 6A, R339
  | bit5E -- BIT 5,E: CB 6B, R339
  | bit5H -- BIT 5,H: CB 6C, R339
  | bit5L -- BIT 5,L: CB 6D, R339
  | bit5AtHL -- BIT 5,(HL): CB 6E, R340
  | bit5A -- BIT 5,A: CB 6F, R339
  | bit6B -- BIT 6,B: CB 70, R339
  | bit6C -- BIT 6,C: CB 71, R339
  | bit6D -- BIT 6,D: CB 72, R339
  | bit6E -- BIT 6,E: CB 73, R339
  | bit6H -- BIT 6,H: CB 74, R339
  | bit6L -- BIT 6,L: CB 75, R339
  | bit6AtHL -- BIT 6,(HL): CB 76, R340
  | bit6A -- BIT 6,A: CB 77, R339
  | bit7B -- BIT 7,B: CB 78, R339
  | bit7C -- BIT 7,C: CB 79, R339
  | bit7D -- BIT 7,D: CB 7A, R339
  | bit7E -- BIT 7,E: CB 7B, R339
  | bit7H -- BIT 7,H: CB 7C, R339
  | bit7L -- BIT 7,L: CB 7D, R339
  | bit7AtHL -- BIT 7,(HL): CB 7E, R340
  | bit7A -- BIT 7,A: CB 7F, R339
  | res0B -- RES 0,B: CB 80, R341
  | res0C -- RES 0,C: CB 81, R341
  | res0D -- RES 0,D: CB 82, R341
  | res0E -- RES 0,E: CB 83, R341
  | res0H -- RES 0,H: CB 84, R341
  | res0L -- RES 0,L: CB 85, R341
  | res0AtHL -- RES 0,(HL): CB 86, R341
  | res0A -- RES 0,A: CB 87, R341
  | res1B -- RES 1,B: CB 88, R341
  | res1C -- RES 1,C: CB 89, R341
  | res1D -- RES 1,D: CB 8A, R341
  | res1E -- RES 1,E: CB 8B, R341
  | res1H -- RES 1,H: CB 8C, R341
  | res1L -- RES 1,L: CB 8D, R341
  | res1AtHL -- RES 1,(HL): CB 8E, R341
  | res1A -- RES 1,A: CB 8F, R341
  | res2B -- RES 2,B: CB 90, R341
  | res2C -- RES 2,C: CB 91, R341
  | res2D -- RES 2,D: CB 92, R341
  | res2E -- RES 2,E: CB 93, R341
  | res2H -- RES 2,H: CB 94, R341
  | res2L -- RES 2,L: CB 95, R341
  | res2AtHL -- RES 2,(HL): CB 96, R341
  | res2A -- RES 2,A: CB 97, R341
  | res3B -- RES 3,B: CB 98, R341
  | res3C -- RES 3,C: CB 99, R341
  | res3D -- RES 3,D: CB 9A, R341
  | res3E -- RES 3,E: CB 9B, R341
  | res3H -- RES 3,H: CB 9C, R341
  | res3L -- RES 3,L: CB 9D, R341
  | res3AtHL -- RES 3,(HL): CB 9E, R341
  | res3A -- RES 3,A: CB 9F, R341
  | res4B -- RES 4,B: CB A0, R341
  | res4C -- RES 4,C: CB A1, R341
  | res4D -- RES 4,D: CB A2, R341
  | res4E -- RES 4,E: CB A3, R341
  | res4H -- RES 4,H: CB A4, R341
  | res4L -- RES 4,L: CB A5, R341
  | res4AtHL -- RES 4,(HL): CB A6, R341
  | res4A -- RES 4,A: CB A7, R341
  | res5B -- RES 5,B: CB A8, R341
  | res5C -- RES 5,C: CB A9, R341
  | res5D -- RES 5,D: CB AA, R341
  | res5E -- RES 5,E: CB AB, R341
  | res5H -- RES 5,H: CB AC, R341
  | res5L -- RES 5,L: CB AD, R341
  | res5AtHL -- RES 5,(HL): CB AE, R341
  | res5A -- RES 5,A: CB AF, R341
  | res6B -- RES 6,B: CB B0, R341
  | res6C -- RES 6,C: CB B1, R341
  | res6D -- RES 6,D: CB B2, R341
  | res6E -- RES 6,E: CB B3, R341
  | res6H -- RES 6,H: CB B4, R341
  | res6L -- RES 6,L: CB B5, R341
  | res6AtHL -- RES 6,(HL): CB B6, R341
  | res6A -- RES 6,A: CB B7, R341
  | res7B -- RES 7,B: CB B8, R341
  | res7C -- RES 7,C: CB B9, R341
  | res7D -- RES 7,D: CB BA, R341
  | res7E -- RES 7,E: CB BB, R341
  | res7H -- RES 7,H: CB BC, R341
  | res7L -- RES 7,L: CB BD, R341
  | res7AtHL -- RES 7,(HL): CB BE, R341
  | res7A -- RES 7,A: CB BF, R341
  | set0B -- SET 0,B: CB C0, R342
  | set0C -- SET 0,C: CB C1, R342
  | set0D -- SET 0,D: CB C2, R342
  | set0E -- SET 0,E: CB C3, R342
  | set0H -- SET 0,H: CB C4, R342
  | set0L -- SET 0,L: CB C5, R342
  | set0AtHL -- SET 0,(HL): CB C6, R342
  | set0A -- SET 0,A: CB C7, R342
  | set1B -- SET 1,B: CB C8, R342
  | set1C -- SET 1,C: CB C9, R342
  | set1D -- SET 1,D: CB CA, R342
  | set1E -- SET 1,E: CB CB, R342
  | set1H -- SET 1,H: CB CC, R342
  | set1L -- SET 1,L: CB CD, R342
  | set1AtHL -- SET 1,(HL): CB CE, R342
  | set1A -- SET 1,A: CB CF, R342
  | set2B -- SET 2,B: CB D0, R342
  | set2C -- SET 2,C: CB D1, R342
  | set2D -- SET 2,D: CB D2, R342
  | set2E -- SET 2,E: CB D3, R342
  | set2H -- SET 2,H: CB D4, R342
  | set2L -- SET 2,L: CB D5, R342
  | set2AtHL -- SET 2,(HL): CB D6, R342
  | set2A -- SET 2,A: CB D7, R342
  | set3B -- SET 3,B: CB D8, R342
  | set3C -- SET 3,C: CB D9, R342
  | set3D -- SET 3,D: CB DA, R342
  | set3E -- SET 3,E: CB DB, R342
  | set3H -- SET 3,H: CB DC, R342
  | set3L -- SET 3,L: CB DD, R342
  | set3AtHL -- SET 3,(HL): CB DE, R342
  | set3A -- SET 3,A: CB DF, R342
  | set4B -- SET 4,B: CB E0, R342
  | set4C -- SET 4,C: CB E1, R342
  | set4D -- SET 4,D: CB E2, R342
  | set4E -- SET 4,E: CB E3, R342
  | set4H -- SET 4,H: CB E4, R342
  | set4L -- SET 4,L: CB E5, R342
  | set4AtHL -- SET 4,(HL): CB E6, R342
  | set4A -- SET 4,A: CB E7, R342
  | set5B -- SET 5,B: CB E8, R342
  | set5C -- SET 5,C: CB E9, R342
  | set5D -- SET 5,D: CB EA, R342
  | set5E -- SET 5,E: CB EB, R342
  | set5H -- SET 5,H: CB EC, R342
  | set5L -- SET 5,L: CB ED, R342
  | set5AtHL -- SET 5,(HL): CB EE, R342
  | set5A -- SET 5,A: CB EF, R342
  | set6B -- SET 6,B: CB F0, R342
  | set6C -- SET 6,C: CB F1, R342
  | set6D -- SET 6,D: CB F2, R342
  | set6E -- SET 6,E: CB F3, R342
  | set6H -- SET 6,H: CB F4, R342
  | set6L -- SET 6,L: CB F5, R342
  | set6AtHL -- SET 6,(HL): CB F6, R342
  | set6A -- SET 6,A: CB F7, R342
  | set7B -- SET 7,B: CB F8, R342
  | set7C -- SET 7,C: CB F9, R342
  | set7D -- SET 7,D: CB FA, R342
  | set7E -- SET 7,E: CB FB, R342
  | set7H -- SET 7,H: CB FC, R342
  | set7L -- SET 7,L: CB FD, R342
  | set7AtHL -- SET 7,(HL): CB FE, R342
  | set7A -- SET 7,A: CB FF, R342
  | inBAtC -- IN B,(C): ED 40, R350
  | outAtCB -- OUT (C),B: ED 41, R352
  | sbcHLBC -- SBC HL,BC: ED 42, R354
  | ldAtAbsBC -- LD (nn),BC: ED 43, R356
  | ldIA -- LD I,A: ED 47, R362
  | inCAtC -- IN C,(C): ED 48, R350
  | outAtCC -- OUT (C),C: ED 49, R352
  | adcHLBC -- ADC HL,BC: ED 4A, R355
  | ldBCAtAbs -- LD BC,(nn): ED 4B, R357
  | reti -- RETI: ED 4D, R360
  | ldRA -- LD R,A: ED 4F, R363
  | inDAtC -- IN D,(C): ED 50, R350
  | outAtCD -- OUT (C),D: ED 51, R352
  | sbcHLDE -- SBC HL,DE: ED 52, R354
  | ldAtAbsDE -- LD (nn),DE: ED 53, R356
  | ldAI -- LD A,I: ED 57, R364
  | inEAtC -- IN E,(C): ED 58, R350
  | outAtCE -- OUT (C),E: ED 59, R352
  | adcHLDE -- ADC HL,DE: ED 5A, R355
  | ldDEAtAbs -- LD DE,(nn): ED 5B, R357
  | ldAR -- LD A,R: ED 5F, R365
  | inHAtC -- IN H,(C): ED 60, R350
  | outAtCH -- OUT (C),H: ED 61, R352
  | sbcHLHL -- SBC HL,HL: ED 62, R354
  | ldAtAbsHLEd -- LD (nn),HL: ED 63, R356
  | rrd -- RRD: ED 67, R366
  | inLAtC -- IN L,(C): ED 68, R350
  | outAtCL -- OUT (C),L: ED 69, R352
  | adcHLHL -- ADC HL,HL: ED 6A, R355
  | ldHLAtAbsEd -- LD HL,(nn): ED 6B, R357
  | rld -- RLD: ED 6F, R367
  | inAtC -- IN (C): ED 70, R351
  | outAtC0 -- OUT (C),0: ED 71, R353
  | sbcHLSP -- SBC HL,SP: ED 72, R354
  | ldAtAbsSP -- LD (nn),SP: ED 73, R356
  | inAAtC -- IN A,(C): ED 78, R350
  | outAtCA -- OUT (C),A: ED 79, R352
  | adcHLSP -- ADC HL,SP: ED 7A, R355
  | ldSPAtAbs -- LD SP,(nn): ED 7B, R357
  | ldi -- LDI: ED A0, R400
  | cpi -- CPI: ED A1, R404
  | ini -- INI: ED A2, R408
  | outi -- OUTI: ED A3, R412
  | ldd -- LDD: ED A8, R401
  | cpd -- CPD: ED A9, R405
  | ind -- IND: ED AA, R409
  | outd -- OUTD: ED AB, R413
  | ldir -- LDIR: ED B0, R402
  | cpir -- CPIR: ED B1, R406
  | inir -- INIR: ED B2, R410
  | otir -- OTIR: ED B3, R414
  | lddr -- LDDR: ED B8, R403
  | cpdr -- CPDR: ED B9, R407
  | indr -- INDR: ED BA, R411
  | otdr -- OTDR: ED BB, R415
  | addIXBC -- ADD IX,BC: DD 09, R432
  | addIXDE -- ADD IX,DE: DD 19, R432
  | ldIXImm16 -- LD IX,nn: DD 21, R433
  | ldAtAbsIX -- LD (nn),IX: DD 22, R434
  | incIX -- INC IX: DD 23, R436
  | incIXH -- INC IXH: DD 24, R438
  | decIXH -- DEC IXH: DD 25, R439
  | ldIXHImm -- LD IXH,n: DD 26, R440
  | addIXIX -- ADD IX,IX: DD 29, R432
  | ldIXAtAbs -- LD IX,(nn): DD 2A, R435
  | decIX -- DEC IX: DD 2B, R437
  | incIXL -- INC IXL: DD 2C, R438
  | decIXL -- DEC IXL: DD 2D, R439
  | ldIXLImm -- LD IXL,n: DD 2E, R440
  | incAtIXd -- INC (IX+d): DD 34, R441
  | decAtIXd -- DEC (IX+d): DD 35, R442
  | ldAtIXdImm -- LD (IX+d),n: DD 36, R443
  | addIXSP -- ADD IX,SP: DD 39, R432
  | ldBIXH -- LD B,IXH: DD 44, R446
  | ldBIXL -- LD B,IXL: DD 45, R446
  | ldBAtIXd -- LD B,(IX+d): DD 46, R444
  | ldCIXH -- LD C,IXH: DD 4C, R446
  | ldCIXL -- LD C,IXL: DD 4D, R446
  | ldCAtIXd -- LD C,(IX+d): DD 4E, R444
  | ldDIXH -- LD D,IXH: DD 54, R446
  | ldDIXL -- LD D,IXL: DD 55, R446
  | ldDAtIXd -- LD D,(IX+d): DD 56, R444
  | ldEIXH -- LD E,IXH: DD 5C, R446
  | ldEIXL -- LD E,IXL: DD 5D, R446
  | ldEAtIXd -- LD E,(IX+d): DD 5E, R444
  | ldIXHB -- LD IXH,B: DD 60, R446
  | ldIXHC -- LD IXH,C: DD 61, R446
  | ldIXHD -- LD IXH,D: DD 62, R446
  | ldIXHE -- LD IXH,E: DD 63, R446
  | ldIXHIXH -- LD IXH,IXH: DD 64, R446
  | ldIXHIXL -- LD IXH,IXL: DD 65, R446
  | ldHAtIXd -- LD H,(IX+d): DD 66, R444
  | ldIXHA -- LD IXH,A: DD 67, R446
  | ldIXLB -- LD IXL,B: DD 68, R446
  | ldIXLC -- LD IXL,C: DD 69, R446
  | ldIXLD -- LD IXL,D: DD 6A, R446
  | ldIXLE -- LD IXL,E: DD 6B, R446
  | ldIXLIXH -- LD IXL,IXH: DD 6C, R446
  | ldIXLIXL -- LD IXL,IXL: DD 6D, R446
  | ldLAtIXd -- LD L,(IX+d): DD 6E, R444
  | ldIXLA -- LD IXL,A: DD 6F, R446
  | ldAtIXdB -- LD (IX+d),B: DD 70, R445
  | ldAtIXdC -- LD (IX+d),C: DD 71, R445
  | ldAtIXdD -- LD (IX+d),D: DD 72, R445
  | ldAtIXdE -- LD (IX+d),E: DD 73, R445
  | ldAtIXdH -- LD (IX+d),H: DD 74, R445
  | ldAtIXdL -- LD (IX+d),L: DD 75, R445
  | ldAtIXdA -- LD (IX+d),A: DD 77, R445
  | ldAIXH -- LD A,IXH: DD 7C, R446
  | ldAIXL -- LD A,IXL: DD 7D, R446
  | ldAAtIXd -- LD A,(IX+d): DD 7E, R444
  | addAIXH -- ADD A,IXH: DD 84, R447
  | addAIXL -- ADD A,IXL: DD 85, R447
  | addAAtIXd -- ADD A,(IX+d): DD 86, R448
  | adcAIXH -- ADC A,IXH: DD 8C, R447
  | adcAIXL -- ADC A,IXL: DD 8D, R447
  | adcAAtIXd -- ADC A,(IX+d): DD 8E, R448
  | subIXH -- SUB IXH: DD 94, R447
  | subIXL -- SUB IXL: DD 95, R447
  | subAtIXd -- SUB (IX+d): DD 96, R448
  | sbcAIXH -- SBC A,IXH: DD 9C, R447
  | sbcAIXL -- SBC A,IXL: DD 9D, R447
  | sbcAAtIXd -- SBC A,(IX+d): DD 9E, R448
  | andIXH -- AND IXH: DD A4, R447
  | andIXL -- AND IXL: DD A5, R447
  | andAtIXd -- AND (IX+d): DD A6, R448
  | xorIXH -- XOR IXH: DD AC, R447
  | xorIXL -- XOR IXL: DD AD, R447
  | xorAtIXd -- XOR (IX+d): DD AE, R448
  | orIXH -- OR IXH: DD B4, R447
  | orIXL -- OR IXL: DD B5, R447
  | orAtIXd -- OR (IX+d): DD B6, R448
  | cpIXH -- CP IXH: DD BC, R447
  | cpIXL -- CP IXL: DD BD, R447
  | cpAtIXd -- CP (IX+d): DD BE, R448
  | popIX -- POP IX: DD E1, R449
  | exAtSPIX -- EX (SP),IX: DD E3, R451
  | pushIX -- PUSH IX: DD E5, R450
  | jpAtIX -- JP (IX): DD E9, R452
  | ldSPIX -- LD SP,IX: DD F9, R453
  | addIYBC -- ADD IY,BC: FD 09, R432
  | addIYDE -- ADD IY,DE: FD 19, R432
  | ldIYImm16 -- LD IY,nn: FD 21, R433
  | ldAtAbsIY -- LD (nn),IY: FD 22, R434
  | incIY -- INC IY: FD 23, R436
  | incIYH -- INC IYH: FD 24, R438
  | decIYH -- DEC IYH: FD 25, R439
  | ldIYHImm -- LD IYH,n: FD 26, R440
  | addIYIY -- ADD IY,IY: FD 29, R432
  | ldIYAtAbs -- LD IY,(nn): FD 2A, R435
  | decIY -- DEC IY: FD 2B, R437
  | incIYL -- INC IYL: FD 2C, R438
  | decIYL -- DEC IYL: FD 2D, R439
  | ldIYLImm -- LD IYL,n: FD 2E, R440
  | incAtIYd -- INC (IY+d): FD 34, R441
  | decAtIYd -- DEC (IY+d): FD 35, R442
  | ldAtIYdImm -- LD (IY+d),n: FD 36, R443
  | addIYSP -- ADD IY,SP: FD 39, R432
  | ldBIYH -- LD B,IYH: FD 44, R446
  | ldBIYL -- LD B,IYL: FD 45, R446
  | ldBAtIYd -- LD B,(IY+d): FD 46, R444
  | ldCIYH -- LD C,IYH: FD 4C, R446
  | ldCIYL -- LD C,IYL: FD 4D, R446
  | ldCAtIYd -- LD C,(IY+d): FD 4E, R444
  | ldDIYH -- LD D,IYH: FD 54, R446
  | ldDIYL -- LD D,IYL: FD 55, R446
  | ldDAtIYd -- LD D,(IY+d): FD 56, R444
  | ldEIYH -- LD E,IYH: FD 5C, R446
  | ldEIYL -- LD E,IYL: FD 5D, R446
  | ldEAtIYd -- LD E,(IY+d): FD 5E, R444
  | ldIYHB -- LD IYH,B: FD 60, R446
  | ldIYHC -- LD IYH,C: FD 61, R446
  | ldIYHD -- LD IYH,D: FD 62, R446
  | ldIYHE -- LD IYH,E: FD 63, R446
  | ldIYHIYH -- LD IYH,IYH: FD 64, R446
  | ldIYHIYL -- LD IYH,IYL: FD 65, R446
  | ldHAtIYd -- LD H,(IY+d): FD 66, R444
  | ldIYHA -- LD IYH,A: FD 67, R446
  | ldIYLB -- LD IYL,B: FD 68, R446
  | ldIYLC -- LD IYL,C: FD 69, R446
  | ldIYLD -- LD IYL,D: FD 6A, R446
  | ldIYLE -- LD IYL,E: FD 6B, R446
  | ldIYLIYH -- LD IYL,IYH: FD 6C, R446
  | ldIYLIYL -- LD IYL,IYL: FD 6D, R446
  | ldLAtIYd -- LD L,(IY+d): FD 6E, R444
  | ldIYLA -- LD IYL,A: FD 6F, R446
  | ldAtIYdB -- LD (IY+d),B: FD 70, R445
  | ldAtIYdC -- LD (IY+d),C: FD 71, R445
  | ldAtIYdD -- LD (IY+d),D: FD 72, R445
  | ldAtIYdE -- LD (IY+d),E: FD 73, R445
  | ldAtIYdH -- LD (IY+d),H: FD 74, R445
  | ldAtIYdL -- LD (IY+d),L: FD 75, R445
  | ldAtIYdA -- LD (IY+d),A: FD 77, R445
  | ldAIYH -- LD A,IYH: FD 7C, R446
  | ldAIYL -- LD A,IYL: FD 7D, R446
  | ldAAtIYd -- LD A,(IY+d): FD 7E, R444
  | addAIYH -- ADD A,IYH: FD 84, R447
  | addAIYL -- ADD A,IYL: FD 85, R447
  | addAAtIYd -- ADD A,(IY+d): FD 86, R448
  | adcAIYH -- ADC A,IYH: FD 8C, R447
  | adcAIYL -- ADC A,IYL: FD 8D, R447
  | adcAAtIYd -- ADC A,(IY+d): FD 8E, R448
  | subIYH -- SUB IYH: FD 94, R447
  | subIYL -- SUB IYL: FD 95, R447
  | subAtIYd -- SUB (IY+d): FD 96, R448
  | sbcAIYH -- SBC A,IYH: FD 9C, R447
  | sbcAIYL -- SBC A,IYL: FD 9D, R447
  | sbcAAtIYd -- SBC A,(IY+d): FD 9E, R448
  | andIYH -- AND IYH: FD A4, R447
  | andIYL -- AND IYL: FD A5, R447
  | andAtIYd -- AND (IY+d): FD A6, R448
  | xorIYH -- XOR IYH: FD AC, R447
  | xorIYL -- XOR IYL: FD AD, R447
  | xorAtIYd -- XOR (IY+d): FD AE, R448
  | orIYH -- OR IYH: FD B4, R447
  | orIYL -- OR IYL: FD B5, R447
  | orAtIYd -- OR (IY+d): FD B6, R448
  | cpIYH -- CP IYH: FD BC, R447
  | cpIYL -- CP IYL: FD BD, R447
  | cpAtIYd -- CP (IY+d): FD BE, R448
  | popIY -- POP IY: FD E1, R449
  | exAtSPIY -- EX (SP),IY: FD E3, R451
  | pushIY -- PUSH IY: FD E5, R450
  | jpAtIY -- JP (IY): FD E9, R452
  | ldSPIY -- LD SP,IY: FD F9, R453
  | ldBRlcAtIXd -- LD B,RLC (IX+d): DD CB d 00, R492
  | ldCRlcAtIXd -- LD C,RLC (IX+d): DD CB d 01, R492
  | ldDRlcAtIXd -- LD D,RLC (IX+d): DD CB d 02, R492
  | ldERlcAtIXd -- LD E,RLC (IX+d): DD CB d 03, R492
  | ldHRlcAtIXd -- LD H,RLC (IX+d): DD CB d 04, R492
  | ldLRlcAtIXd -- LD L,RLC (IX+d): DD CB d 05, R492
  | rlcAtIXd -- RLC (IX+d): DD CB d 06, R491
  | ldARlcAtIXd -- LD A,RLC (IX+d): DD CB d 07, R492
  | ldBRrcAtIXd -- LD B,RRC (IX+d): DD CB d 08, R492
  | ldCRrcAtIXd -- LD C,RRC (IX+d): DD CB d 09, R492
  | ldDRrcAtIXd -- LD D,RRC (IX+d): DD CB d 0A, R492
  | ldERrcAtIXd -- LD E,RRC (IX+d): DD CB d 0B, R492
  | ldHRrcAtIXd -- LD H,RRC (IX+d): DD CB d 0C, R492
  | ldLRrcAtIXd -- LD L,RRC (IX+d): DD CB d 0D, R492
  | rrcAtIXd -- RRC (IX+d): DD CB d 0E, R491
  | ldARrcAtIXd -- LD A,RRC (IX+d): DD CB d 0F, R492
  | ldBRlAtIXd -- LD B,RL (IX+d): DD CB d 10, R492
  | ldCRlAtIXd -- LD C,RL (IX+d): DD CB d 11, R492
  | ldDRlAtIXd -- LD D,RL (IX+d): DD CB d 12, R492
  | ldERlAtIXd -- LD E,RL (IX+d): DD CB d 13, R492
  | ldHRlAtIXd -- LD H,RL (IX+d): DD CB d 14, R492
  | ldLRlAtIXd -- LD L,RL (IX+d): DD CB d 15, R492
  | rlAtIXd -- RL (IX+d): DD CB d 16, R491
  | ldARlAtIXd -- LD A,RL (IX+d): DD CB d 17, R492
  | ldBRrAtIXd -- LD B,RR (IX+d): DD CB d 18, R492
  | ldCRrAtIXd -- LD C,RR (IX+d): DD CB d 19, R492
  | ldDRrAtIXd -- LD D,RR (IX+d): DD CB d 1A, R492
  | ldERrAtIXd -- LD E,RR (IX+d): DD CB d 1B, R492
  | ldHRrAtIXd -- LD H,RR (IX+d): DD CB d 1C, R492
  | ldLRrAtIXd -- LD L,RR (IX+d): DD CB d 1D, R492
  | rrAtIXd -- RR (IX+d): DD CB d 1E, R491
  | ldARrAtIXd -- LD A,RR (IX+d): DD CB d 1F, R492
  | ldBSlaAtIXd -- LD B,SLA (IX+d): DD CB d 20, R492
  | ldCSlaAtIXd -- LD C,SLA (IX+d): DD CB d 21, R492
  | ldDSlaAtIXd -- LD D,SLA (IX+d): DD CB d 22, R492
  | ldESlaAtIXd -- LD E,SLA (IX+d): DD CB d 23, R492
  | ldHSlaAtIXd -- LD H,SLA (IX+d): DD CB d 24, R492
  | ldLSlaAtIXd -- LD L,SLA (IX+d): DD CB d 25, R492
  | slaAtIXd -- SLA (IX+d): DD CB d 26, R491
  | ldASlaAtIXd -- LD A,SLA (IX+d): DD CB d 27, R492
  | ldBSraAtIXd -- LD B,SRA (IX+d): DD CB d 28, R492
  | ldCSraAtIXd -- LD C,SRA (IX+d): DD CB d 29, R492
  | ldDSraAtIXd -- LD D,SRA (IX+d): DD CB d 2A, R492
  | ldESraAtIXd -- LD E,SRA (IX+d): DD CB d 2B, R492
  | ldHSraAtIXd -- LD H,SRA (IX+d): DD CB d 2C, R492
  | ldLSraAtIXd -- LD L,SRA (IX+d): DD CB d 2D, R492
  | sraAtIXd -- SRA (IX+d): DD CB d 2E, R491
  | ldASraAtIXd -- LD A,SRA (IX+d): DD CB d 2F, R492
  | ldBSllAtIXd -- LD B,SLL (IX+d): DD CB d 30, R492
  | ldCSllAtIXd -- LD C,SLL (IX+d): DD CB d 31, R492
  | ldDSllAtIXd -- LD D,SLL (IX+d): DD CB d 32, R492
  | ldESllAtIXd -- LD E,SLL (IX+d): DD CB d 33, R492
  | ldHSllAtIXd -- LD H,SLL (IX+d): DD CB d 34, R492
  | ldLSllAtIXd -- LD L,SLL (IX+d): DD CB d 35, R492
  | sllAtIXd -- SLL (IX+d): DD CB d 36, R491
  | ldASllAtIXd -- LD A,SLL (IX+d): DD CB d 37, R492
  | ldBSrlAtIXd -- LD B,SRL (IX+d): DD CB d 38, R492
  | ldCSrlAtIXd -- LD C,SRL (IX+d): DD CB d 39, R492
  | ldDSrlAtIXd -- LD D,SRL (IX+d): DD CB d 3A, R492
  | ldESrlAtIXd -- LD E,SRL (IX+d): DD CB d 3B, R492
  | ldHSrlAtIXd -- LD H,SRL (IX+d): DD CB d 3C, R492
  | ldLSrlAtIXd -- LD L,SRL (IX+d): DD CB d 3D, R492
  | srlAtIXd -- SRL (IX+d): DD CB d 3E, R491
  | ldASrlAtIXd -- LD A,SRL (IX+d): DD CB d 3F, R492
  | ldBRes0AtIXd -- LD B,RES 0,(IX+d): DD CB d 80, R495
  | ldCRes0AtIXd -- LD C,RES 0,(IX+d): DD CB d 81, R495
  | ldDRes0AtIXd -- LD D,RES 0,(IX+d): DD CB d 82, R495
  | ldERes0AtIXd -- LD E,RES 0,(IX+d): DD CB d 83, R495
  | ldHRes0AtIXd -- LD H,RES 0,(IX+d): DD CB d 84, R495
  | ldLRes0AtIXd -- LD L,RES 0,(IX+d): DD CB d 85, R495
  | res0AtIXd -- RES 0,(IX+d): DD CB d 86, R494
  | ldARes0AtIXd -- LD A,RES 0,(IX+d): DD CB d 87, R495
  | ldBRes1AtIXd -- LD B,RES 1,(IX+d): DD CB d 88, R495
  | ldCRes1AtIXd -- LD C,RES 1,(IX+d): DD CB d 89, R495
  | ldDRes1AtIXd -- LD D,RES 1,(IX+d): DD CB d 8A, R495
  | ldERes1AtIXd -- LD E,RES 1,(IX+d): DD CB d 8B, R495
  | ldHRes1AtIXd -- LD H,RES 1,(IX+d): DD CB d 8C, R495
  | ldLRes1AtIXd -- LD L,RES 1,(IX+d): DD CB d 8D, R495
  | res1AtIXd -- RES 1,(IX+d): DD CB d 8E, R494
  | ldARes1AtIXd -- LD A,RES 1,(IX+d): DD CB d 8F, R495
  | ldBRes2AtIXd -- LD B,RES 2,(IX+d): DD CB d 90, R495
  | ldCRes2AtIXd -- LD C,RES 2,(IX+d): DD CB d 91, R495
  | ldDRes2AtIXd -- LD D,RES 2,(IX+d): DD CB d 92, R495
  | ldERes2AtIXd -- LD E,RES 2,(IX+d): DD CB d 93, R495
  | ldHRes2AtIXd -- LD H,RES 2,(IX+d): DD CB d 94, R495
  | ldLRes2AtIXd -- LD L,RES 2,(IX+d): DD CB d 95, R495
  | res2AtIXd -- RES 2,(IX+d): DD CB d 96, R494
  | ldARes2AtIXd -- LD A,RES 2,(IX+d): DD CB d 97, R495
  | ldBRes3AtIXd -- LD B,RES 3,(IX+d): DD CB d 98, R495
  | ldCRes3AtIXd -- LD C,RES 3,(IX+d): DD CB d 99, R495
  | ldDRes3AtIXd -- LD D,RES 3,(IX+d): DD CB d 9A, R495
  | ldERes3AtIXd -- LD E,RES 3,(IX+d): DD CB d 9B, R495
  | ldHRes3AtIXd -- LD H,RES 3,(IX+d): DD CB d 9C, R495
  | ldLRes3AtIXd -- LD L,RES 3,(IX+d): DD CB d 9D, R495
  | res3AtIXd -- RES 3,(IX+d): DD CB d 9E, R494
  | ldARes3AtIXd -- LD A,RES 3,(IX+d): DD CB d 9F, R495
  | ldBRes4AtIXd -- LD B,RES 4,(IX+d): DD CB d A0, R495
  | ldCRes4AtIXd -- LD C,RES 4,(IX+d): DD CB d A1, R495
  | ldDRes4AtIXd -- LD D,RES 4,(IX+d): DD CB d A2, R495
  | ldERes4AtIXd -- LD E,RES 4,(IX+d): DD CB d A3, R495
  | ldHRes4AtIXd -- LD H,RES 4,(IX+d): DD CB d A4, R495
  | ldLRes4AtIXd -- LD L,RES 4,(IX+d): DD CB d A5, R495
  | res4AtIXd -- RES 4,(IX+d): DD CB d A6, R494
  | ldARes4AtIXd -- LD A,RES 4,(IX+d): DD CB d A7, R495
  | ldBRes5AtIXd -- LD B,RES 5,(IX+d): DD CB d A8, R495
  | ldCRes5AtIXd -- LD C,RES 5,(IX+d): DD CB d A9, R495
  | ldDRes5AtIXd -- LD D,RES 5,(IX+d): DD CB d AA, R495
  | ldERes5AtIXd -- LD E,RES 5,(IX+d): DD CB d AB, R495
  | ldHRes5AtIXd -- LD H,RES 5,(IX+d): DD CB d AC, R495
  | ldLRes5AtIXd -- LD L,RES 5,(IX+d): DD CB d AD, R495
  | res5AtIXd -- RES 5,(IX+d): DD CB d AE, R494
  | ldARes5AtIXd -- LD A,RES 5,(IX+d): DD CB d AF, R495
  | ldBRes6AtIXd -- LD B,RES 6,(IX+d): DD CB d B0, R495
  | ldCRes6AtIXd -- LD C,RES 6,(IX+d): DD CB d B1, R495
  | ldDRes6AtIXd -- LD D,RES 6,(IX+d): DD CB d B2, R495
  | ldERes6AtIXd -- LD E,RES 6,(IX+d): DD CB d B3, R495
  | ldHRes6AtIXd -- LD H,RES 6,(IX+d): DD CB d B4, R495
  | ldLRes6AtIXd -- LD L,RES 6,(IX+d): DD CB d B5, R495
  | res6AtIXd -- RES 6,(IX+d): DD CB d B6, R494
  | ldARes6AtIXd -- LD A,RES 6,(IX+d): DD CB d B7, R495
  | ldBRes7AtIXd -- LD B,RES 7,(IX+d): DD CB d B8, R495
  | ldCRes7AtIXd -- LD C,RES 7,(IX+d): DD CB d B9, R495
  | ldDRes7AtIXd -- LD D,RES 7,(IX+d): DD CB d BA, R495
  | ldERes7AtIXd -- LD E,RES 7,(IX+d): DD CB d BB, R495
  | ldHRes7AtIXd -- LD H,RES 7,(IX+d): DD CB d BC, R495
  | ldLRes7AtIXd -- LD L,RES 7,(IX+d): DD CB d BD, R495
  | res7AtIXd -- RES 7,(IX+d): DD CB d BE, R494
  | ldARes7AtIXd -- LD A,RES 7,(IX+d): DD CB d BF, R495
  | ldBSet0AtIXd -- LD B,SET 0,(IX+d): DD CB d C0, R497
  | ldCSet0AtIXd -- LD C,SET 0,(IX+d): DD CB d C1, R497
  | ldDSet0AtIXd -- LD D,SET 0,(IX+d): DD CB d C2, R497
  | ldESet0AtIXd -- LD E,SET 0,(IX+d): DD CB d C3, R497
  | ldHSet0AtIXd -- LD H,SET 0,(IX+d): DD CB d C4, R497
  | ldLSet0AtIXd -- LD L,SET 0,(IX+d): DD CB d C5, R497
  | set0AtIXd -- SET 0,(IX+d): DD CB d C6, R496
  | ldASet0AtIXd -- LD A,SET 0,(IX+d): DD CB d C7, R497
  | ldBSet1AtIXd -- LD B,SET 1,(IX+d): DD CB d C8, R497
  | ldCSet1AtIXd -- LD C,SET 1,(IX+d): DD CB d C9, R497
  | ldDSet1AtIXd -- LD D,SET 1,(IX+d): DD CB d CA, R497
  | ldESet1AtIXd -- LD E,SET 1,(IX+d): DD CB d CB, R497
  | ldHSet1AtIXd -- LD H,SET 1,(IX+d): DD CB d CC, R497
  | ldLSet1AtIXd -- LD L,SET 1,(IX+d): DD CB d CD, R497
  | set1AtIXd -- SET 1,(IX+d): DD CB d CE, R496
  | ldASet1AtIXd -- LD A,SET 1,(IX+d): DD CB d CF, R497
  | ldBSet2AtIXd -- LD B,SET 2,(IX+d): DD CB d D0, R497
  | ldCSet2AtIXd -- LD C,SET 2,(IX+d): DD CB d D1, R497
  | ldDSet2AtIXd -- LD D,SET 2,(IX+d): DD CB d D2, R497
  | ldESet2AtIXd -- LD E,SET 2,(IX+d): DD CB d D3, R497
  | ldHSet2AtIXd -- LD H,SET 2,(IX+d): DD CB d D4, R497
  | ldLSet2AtIXd -- LD L,SET 2,(IX+d): DD CB d D5, R497
  | set2AtIXd -- SET 2,(IX+d): DD CB d D6, R496
  | ldASet2AtIXd -- LD A,SET 2,(IX+d): DD CB d D7, R497
  | ldBSet3AtIXd -- LD B,SET 3,(IX+d): DD CB d D8, R497
  | ldCSet3AtIXd -- LD C,SET 3,(IX+d): DD CB d D9, R497
  | ldDSet3AtIXd -- LD D,SET 3,(IX+d): DD CB d DA, R497
  | ldESet3AtIXd -- LD E,SET 3,(IX+d): DD CB d DB, R497
  | ldHSet3AtIXd -- LD H,SET 3,(IX+d): DD CB d DC, R497
  | ldLSet3AtIXd -- LD L,SET 3,(IX+d): DD CB d DD, R497
  | set3AtIXd -- SET 3,(IX+d): DD CB d DE, R496
  | ldASet3AtIXd -- LD A,SET 3,(IX+d): DD CB d DF, R497
  | ldBSet4AtIXd -- LD B,SET 4,(IX+d): DD CB d E0, R497
  | ldCSet4AtIXd -- LD C,SET 4,(IX+d): DD CB d E1, R497
  | ldDSet4AtIXd -- LD D,SET 4,(IX+d): DD CB d E2, R497
  | ldESet4AtIXd -- LD E,SET 4,(IX+d): DD CB d E3, R497
  | ldHSet4AtIXd -- LD H,SET 4,(IX+d): DD CB d E4, R497
  | ldLSet4AtIXd -- LD L,SET 4,(IX+d): DD CB d E5, R497
  | set4AtIXd -- SET 4,(IX+d): DD CB d E6, R496
  | ldASet4AtIXd -- LD A,SET 4,(IX+d): DD CB d E7, R497
  | ldBSet5AtIXd -- LD B,SET 5,(IX+d): DD CB d E8, R497
  | ldCSet5AtIXd -- LD C,SET 5,(IX+d): DD CB d E9, R497
  | ldDSet5AtIXd -- LD D,SET 5,(IX+d): DD CB d EA, R497
  | ldESet5AtIXd -- LD E,SET 5,(IX+d): DD CB d EB, R497
  | ldHSet5AtIXd -- LD H,SET 5,(IX+d): DD CB d EC, R497
  | ldLSet5AtIXd -- LD L,SET 5,(IX+d): DD CB d ED, R497
  | set5AtIXd -- SET 5,(IX+d): DD CB d EE, R496
  | ldASet5AtIXd -- LD A,SET 5,(IX+d): DD CB d EF, R497
  | ldBSet6AtIXd -- LD B,SET 6,(IX+d): DD CB d F0, R497
  | ldCSet6AtIXd -- LD C,SET 6,(IX+d): DD CB d F1, R497
  | ldDSet6AtIXd -- LD D,SET 6,(IX+d): DD CB d F2, R497
  | ldESet6AtIXd -- LD E,SET 6,(IX+d): DD CB d F3, R497
  | ldHSet6AtIXd -- LD H,SET 6,(IX+d): DD CB d F4, R497
  | ldLSet6AtIXd -- LD L,SET 6,(IX+d): DD CB d F5, R497
  | set6AtIXd -- SET 6,(IX+d): DD CB d F6, R496
  | ldASet6AtIXd -- LD A,SET 6,(IX+d): DD CB d F7, R497
  | ldBSet7AtIXd -- LD B,SET 7,(IX+d): DD CB d F8, R497
  | ldCSet7AtIXd -- LD C,SET 7,(IX+d): DD CB d F9, R497
  | ldDSet7AtIXd -- LD D,SET 7,(IX+d): DD CB d FA, R497
  | ldESet7AtIXd -- LD E,SET 7,(IX+d): DD CB d FB, R497
  | ldHSet7AtIXd -- LD H,SET 7,(IX+d): DD CB d FC, R497
  | ldLSet7AtIXd -- LD L,SET 7,(IX+d): DD CB d FD, R497
  | set7AtIXd -- SET 7,(IX+d): DD CB d FE, R496
  | ldASet7AtIXd -- LD A,SET 7,(IX+d): DD CB d FF, R497
  | ldBRlcAtIYd -- LD B,RLC (IY+d): FD CB d 00, R492
  | ldCRlcAtIYd -- LD C,RLC (IY+d): FD CB d 01, R492
  | ldDRlcAtIYd -- LD D,RLC (IY+d): FD CB d 02, R492
  | ldERlcAtIYd -- LD E,RLC (IY+d): FD CB d 03, R492
  | ldHRlcAtIYd -- LD H,RLC (IY+d): FD CB d 04, R492
  | ldLRlcAtIYd -- LD L,RLC (IY+d): FD CB d 05, R492
  | rlcAtIYd -- RLC (IY+d): FD CB d 06, R491
  | ldARlcAtIYd -- LD A,RLC (IY+d): FD CB d 07, R492
  | ldBRrcAtIYd -- LD B,RRC (IY+d): FD CB d 08, R492
  | ldCRrcAtIYd -- LD C,RRC (IY+d): FD CB d 09, R492
  | ldDRrcAtIYd -- LD D,RRC (IY+d): FD CB d 0A, R492
  | ldERrcAtIYd -- LD E,RRC (IY+d): FD CB d 0B, R492
  | ldHRrcAtIYd -- LD H,RRC (IY+d): FD CB d 0C, R492
  | ldLRrcAtIYd -- LD L,RRC (IY+d): FD CB d 0D, R492
  | rrcAtIYd -- RRC (IY+d): FD CB d 0E, R491
  | ldARrcAtIYd -- LD A,RRC (IY+d): FD CB d 0F, R492
  | ldBRlAtIYd -- LD B,RL (IY+d): FD CB d 10, R492
  | ldCRlAtIYd -- LD C,RL (IY+d): FD CB d 11, R492
  | ldDRlAtIYd -- LD D,RL (IY+d): FD CB d 12, R492
  | ldERlAtIYd -- LD E,RL (IY+d): FD CB d 13, R492
  | ldHRlAtIYd -- LD H,RL (IY+d): FD CB d 14, R492
  | ldLRlAtIYd -- LD L,RL (IY+d): FD CB d 15, R492
  | rlAtIYd -- RL (IY+d): FD CB d 16, R491
  | ldARlAtIYd -- LD A,RL (IY+d): FD CB d 17, R492
  | ldBRrAtIYd -- LD B,RR (IY+d): FD CB d 18, R492
  | ldCRrAtIYd -- LD C,RR (IY+d): FD CB d 19, R492
  | ldDRrAtIYd -- LD D,RR (IY+d): FD CB d 1A, R492
  | ldERrAtIYd -- LD E,RR (IY+d): FD CB d 1B, R492
  | ldHRrAtIYd -- LD H,RR (IY+d): FD CB d 1C, R492
  | ldLRrAtIYd -- LD L,RR (IY+d): FD CB d 1D, R492
  | rrAtIYd -- RR (IY+d): FD CB d 1E, R491
  | ldARrAtIYd -- LD A,RR (IY+d): FD CB d 1F, R492
  | ldBSlaAtIYd -- LD B,SLA (IY+d): FD CB d 20, R492
  | ldCSlaAtIYd -- LD C,SLA (IY+d): FD CB d 21, R492
  | ldDSlaAtIYd -- LD D,SLA (IY+d): FD CB d 22, R492
  | ldESlaAtIYd -- LD E,SLA (IY+d): FD CB d 23, R492
  | ldHSlaAtIYd -- LD H,SLA (IY+d): FD CB d 24, R492
  | ldLSlaAtIYd -- LD L,SLA (IY+d): FD CB d 25, R492
  | slaAtIYd -- SLA (IY+d): FD CB d 26, R491
  | ldASlaAtIYd -- LD A,SLA (IY+d): FD CB d 27, R492
  | ldBSraAtIYd -- LD B,SRA (IY+d): FD CB d 28, R492
  | ldCSraAtIYd -- LD C,SRA (IY+d): FD CB d 29, R492
  | ldDSraAtIYd -- LD D,SRA (IY+d): FD CB d 2A, R492
  | ldESraAtIYd -- LD E,SRA (IY+d): FD CB d 2B, R492
  | ldHSraAtIYd -- LD H,SRA (IY+d): FD CB d 2C, R492
  | ldLSraAtIYd -- LD L,SRA (IY+d): FD CB d 2D, R492
  | sraAtIYd -- SRA (IY+d): FD CB d 2E, R491
  | ldASraAtIYd -- LD A,SRA (IY+d): FD CB d 2F, R492
  | ldBSllAtIYd -- LD B,SLL (IY+d): FD CB d 30, R492
  | ldCSllAtIYd -- LD C,SLL (IY+d): FD CB d 31, R492
  | ldDSllAtIYd -- LD D,SLL (IY+d): FD CB d 32, R492
  | ldESllAtIYd -- LD E,SLL (IY+d): FD CB d 33, R492
  | ldHSllAtIYd -- LD H,SLL (IY+d): FD CB d 34, R492
  | ldLSllAtIYd -- LD L,SLL (IY+d): FD CB d 35, R492
  | sllAtIYd -- SLL (IY+d): FD CB d 36, R491
  | ldASllAtIYd -- LD A,SLL (IY+d): FD CB d 37, R492
  | ldBSrlAtIYd -- LD B,SRL (IY+d): FD CB d 38, R492
  | ldCSrlAtIYd -- LD C,SRL (IY+d): FD CB d 39, R492
  | ldDSrlAtIYd -- LD D,SRL (IY+d): FD CB d 3A, R492
  | ldESrlAtIYd -- LD E,SRL (IY+d): FD CB d 3B, R492
  | ldHSrlAtIYd -- LD H,SRL (IY+d): FD CB d 3C, R492
  | ldLSrlAtIYd -- LD L,SRL (IY+d): FD CB d 3D, R492
  | srlAtIYd -- SRL (IY+d): FD CB d 3E, R491
  | ldASrlAtIYd -- LD A,SRL (IY+d): FD CB d 3F, R492
  | ldBRes0AtIYd -- LD B,RES 0,(IY+d): FD CB d 80, R495
  | ldCRes0AtIYd -- LD C,RES 0,(IY+d): FD CB d 81, R495
  | ldDRes0AtIYd -- LD D,RES 0,(IY+d): FD CB d 82, R495
  | ldERes0AtIYd -- LD E,RES 0,(IY+d): FD CB d 83, R495
  | ldHRes0AtIYd -- LD H,RES 0,(IY+d): FD CB d 84, R495
  | ldLRes0AtIYd -- LD L,RES 0,(IY+d): FD CB d 85, R495
  | res0AtIYd -- RES 0,(IY+d): FD CB d 86, R494
  | ldARes0AtIYd -- LD A,RES 0,(IY+d): FD CB d 87, R495
  | ldBRes1AtIYd -- LD B,RES 1,(IY+d): FD CB d 88, R495
  | ldCRes1AtIYd -- LD C,RES 1,(IY+d): FD CB d 89, R495
  | ldDRes1AtIYd -- LD D,RES 1,(IY+d): FD CB d 8A, R495
  | ldERes1AtIYd -- LD E,RES 1,(IY+d): FD CB d 8B, R495
  | ldHRes1AtIYd -- LD H,RES 1,(IY+d): FD CB d 8C, R495
  | ldLRes1AtIYd -- LD L,RES 1,(IY+d): FD CB d 8D, R495
  | res1AtIYd -- RES 1,(IY+d): FD CB d 8E, R494
  | ldARes1AtIYd -- LD A,RES 1,(IY+d): FD CB d 8F, R495
  | ldBRes2AtIYd -- LD B,RES 2,(IY+d): FD CB d 90, R495
  | ldCRes2AtIYd -- LD C,RES 2,(IY+d): FD CB d 91, R495
  | ldDRes2AtIYd -- LD D,RES 2,(IY+d): FD CB d 92, R495
  | ldERes2AtIYd -- LD E,RES 2,(IY+d): FD CB d 93, R495
  | ldHRes2AtIYd -- LD H,RES 2,(IY+d): FD CB d 94, R495
  | ldLRes2AtIYd -- LD L,RES 2,(IY+d): FD CB d 95, R495
  | res2AtIYd -- RES 2,(IY+d): FD CB d 96, R494
  | ldARes2AtIYd -- LD A,RES 2,(IY+d): FD CB d 97, R495
  | ldBRes3AtIYd -- LD B,RES 3,(IY+d): FD CB d 98, R495
  | ldCRes3AtIYd -- LD C,RES 3,(IY+d): FD CB d 99, R495
  | ldDRes3AtIYd -- LD D,RES 3,(IY+d): FD CB d 9A, R495
  | ldERes3AtIYd -- LD E,RES 3,(IY+d): FD CB d 9B, R495
  | ldHRes3AtIYd -- LD H,RES 3,(IY+d): FD CB d 9C, R495
  | ldLRes3AtIYd -- LD L,RES 3,(IY+d): FD CB d 9D, R495
  | res3AtIYd -- RES 3,(IY+d): FD CB d 9E, R494
  | ldARes3AtIYd -- LD A,RES 3,(IY+d): FD CB d 9F, R495
  | ldBRes4AtIYd -- LD B,RES 4,(IY+d): FD CB d A0, R495
  | ldCRes4AtIYd -- LD C,RES 4,(IY+d): FD CB d A1, R495
  | ldDRes4AtIYd -- LD D,RES 4,(IY+d): FD CB d A2, R495
  | ldERes4AtIYd -- LD E,RES 4,(IY+d): FD CB d A3, R495
  | ldHRes4AtIYd -- LD H,RES 4,(IY+d): FD CB d A4, R495
  | ldLRes4AtIYd -- LD L,RES 4,(IY+d): FD CB d A5, R495
  | res4AtIYd -- RES 4,(IY+d): FD CB d A6, R494
  | ldARes4AtIYd -- LD A,RES 4,(IY+d): FD CB d A7, R495
  | ldBRes5AtIYd -- LD B,RES 5,(IY+d): FD CB d A8, R495
  | ldCRes5AtIYd -- LD C,RES 5,(IY+d): FD CB d A9, R495
  | ldDRes5AtIYd -- LD D,RES 5,(IY+d): FD CB d AA, R495
  | ldERes5AtIYd -- LD E,RES 5,(IY+d): FD CB d AB, R495
  | ldHRes5AtIYd -- LD H,RES 5,(IY+d): FD CB d AC, R495
  | ldLRes5AtIYd -- LD L,RES 5,(IY+d): FD CB d AD, R495
  | res5AtIYd -- RES 5,(IY+d): FD CB d AE, R494
  | ldARes5AtIYd -- LD A,RES 5,(IY+d): FD CB d AF, R495
  | ldBRes6AtIYd -- LD B,RES 6,(IY+d): FD CB d B0, R495
  | ldCRes6AtIYd -- LD C,RES 6,(IY+d): FD CB d B1, R495
  | ldDRes6AtIYd -- LD D,RES 6,(IY+d): FD CB d B2, R495
  | ldERes6AtIYd -- LD E,RES 6,(IY+d): FD CB d B3, R495
  | ldHRes6AtIYd -- LD H,RES 6,(IY+d): FD CB d B4, R495
  | ldLRes6AtIYd -- LD L,RES 6,(IY+d): FD CB d B5, R495
  | res6AtIYd -- RES 6,(IY+d): FD CB d B6, R494
  | ldARes6AtIYd -- LD A,RES 6,(IY+d): FD CB d B7, R495
  | ldBRes7AtIYd -- LD B,RES 7,(IY+d): FD CB d B8, R495
  | ldCRes7AtIYd -- LD C,RES 7,(IY+d): FD CB d B9, R495
  | ldDRes7AtIYd -- LD D,RES 7,(IY+d): FD CB d BA, R495
  | ldERes7AtIYd -- LD E,RES 7,(IY+d): FD CB d BB, R495
  | ldHRes7AtIYd -- LD H,RES 7,(IY+d): FD CB d BC, R495
  | ldLRes7AtIYd -- LD L,RES 7,(IY+d): FD CB d BD, R495
  | res7AtIYd -- RES 7,(IY+d): FD CB d BE, R494
  | ldARes7AtIYd -- LD A,RES 7,(IY+d): FD CB d BF, R495
  | ldBSet0AtIYd -- LD B,SET 0,(IY+d): FD CB d C0, R497
  | ldCSet0AtIYd -- LD C,SET 0,(IY+d): FD CB d C1, R497
  | ldDSet0AtIYd -- LD D,SET 0,(IY+d): FD CB d C2, R497
  | ldESet0AtIYd -- LD E,SET 0,(IY+d): FD CB d C3, R497
  | ldHSet0AtIYd -- LD H,SET 0,(IY+d): FD CB d C4, R497
  | ldLSet0AtIYd -- LD L,SET 0,(IY+d): FD CB d C5, R497
  | set0AtIYd -- SET 0,(IY+d): FD CB d C6, R496
  | ldASet0AtIYd -- LD A,SET 0,(IY+d): FD CB d C7, R497
  | ldBSet1AtIYd -- LD B,SET 1,(IY+d): FD CB d C8, R497
  | ldCSet1AtIYd -- LD C,SET 1,(IY+d): FD CB d C9, R497
  | ldDSet1AtIYd -- LD D,SET 1,(IY+d): FD CB d CA, R497
  | ldESet1AtIYd -- LD E,SET 1,(IY+d): FD CB d CB, R497
  | ldHSet1AtIYd -- LD H,SET 1,(IY+d): FD CB d CC, R497
  | ldLSet1AtIYd -- LD L,SET 1,(IY+d): FD CB d CD, R497
  | set1AtIYd -- SET 1,(IY+d): FD CB d CE, R496
  | ldASet1AtIYd -- LD A,SET 1,(IY+d): FD CB d CF, R497
  | ldBSet2AtIYd -- LD B,SET 2,(IY+d): FD CB d D0, R497
  | ldCSet2AtIYd -- LD C,SET 2,(IY+d): FD CB d D1, R497
  | ldDSet2AtIYd -- LD D,SET 2,(IY+d): FD CB d D2, R497
  | ldESet2AtIYd -- LD E,SET 2,(IY+d): FD CB d D3, R497
  | ldHSet2AtIYd -- LD H,SET 2,(IY+d): FD CB d D4, R497
  | ldLSet2AtIYd -- LD L,SET 2,(IY+d): FD CB d D5, R497
  | set2AtIYd -- SET 2,(IY+d): FD CB d D6, R496
  | ldASet2AtIYd -- LD A,SET 2,(IY+d): FD CB d D7, R497
  | ldBSet3AtIYd -- LD B,SET 3,(IY+d): FD CB d D8, R497
  | ldCSet3AtIYd -- LD C,SET 3,(IY+d): FD CB d D9, R497
  | ldDSet3AtIYd -- LD D,SET 3,(IY+d): FD CB d DA, R497
  | ldESet3AtIYd -- LD E,SET 3,(IY+d): FD CB d DB, R497
  | ldHSet3AtIYd -- LD H,SET 3,(IY+d): FD CB d DC, R497
  | ldLSet3AtIYd -- LD L,SET 3,(IY+d): FD CB d DD, R497
  | set3AtIYd -- SET 3,(IY+d): FD CB d DE, R496
  | ldASet3AtIYd -- LD A,SET 3,(IY+d): FD CB d DF, R497
  | ldBSet4AtIYd -- LD B,SET 4,(IY+d): FD CB d E0, R497
  | ldCSet4AtIYd -- LD C,SET 4,(IY+d): FD CB d E1, R497
  | ldDSet4AtIYd -- LD D,SET 4,(IY+d): FD CB d E2, R497
  | ldESet4AtIYd -- LD E,SET 4,(IY+d): FD CB d E3, R497
  | ldHSet4AtIYd -- LD H,SET 4,(IY+d): FD CB d E4, R497
  | ldLSet4AtIYd -- LD L,SET 4,(IY+d): FD CB d E5, R497
  | set4AtIYd -- SET 4,(IY+d): FD CB d E6, R496
  | ldASet4AtIYd -- LD A,SET 4,(IY+d): FD CB d E7, R497
  | ldBSet5AtIYd -- LD B,SET 5,(IY+d): FD CB d E8, R497
  | ldCSet5AtIYd -- LD C,SET 5,(IY+d): FD CB d E9, R497
  | ldDSet5AtIYd -- LD D,SET 5,(IY+d): FD CB d EA, R497
  | ldESet5AtIYd -- LD E,SET 5,(IY+d): FD CB d EB, R497
  | ldHSet5AtIYd -- LD H,SET 5,(IY+d): FD CB d EC, R497
  | ldLSet5AtIYd -- LD L,SET 5,(IY+d): FD CB d ED, R497
  | set5AtIYd -- SET 5,(IY+d): FD CB d EE, R496
  | ldASet5AtIYd -- LD A,SET 5,(IY+d): FD CB d EF, R497
  | ldBSet6AtIYd -- LD B,SET 6,(IY+d): FD CB d F0, R497
  | ldCSet6AtIYd -- LD C,SET 6,(IY+d): FD CB d F1, R497
  | ldDSet6AtIYd -- LD D,SET 6,(IY+d): FD CB d F2, R497
  | ldESet6AtIYd -- LD E,SET 6,(IY+d): FD CB d F3, R497
  | ldHSet6AtIYd -- LD H,SET 6,(IY+d): FD CB d F4, R497
  | ldLSet6AtIYd -- LD L,SET 6,(IY+d): FD CB d F5, R497
  | set6AtIYd -- SET 6,(IY+d): FD CB d F6, R496
  | ldASet6AtIYd -- LD A,SET 6,(IY+d): FD CB d F7, R497
  | ldBSet7AtIYd -- LD B,SET 7,(IY+d): FD CB d F8, R497
  | ldCSet7AtIYd -- LD C,SET 7,(IY+d): FD CB d F9, R497
  | ldDSet7AtIYd -- LD D,SET 7,(IY+d): FD CB d FA, R497
  | ldESet7AtIYd -- LD E,SET 7,(IY+d): FD CB d FB, R497
  | ldHSet7AtIYd -- LD H,SET 7,(IY+d): FD CB d FC, R497
  | ldLSet7AtIYd -- LD L,SET 7,(IY+d): FD CB d FD, R497
  | set7AtIYd -- SET 7,(IY+d): FD CB d FE, R496
  | ldASet7AtIYd -- LD A,SET 7,(IY+d): FD CB d FF, R497
  deriving DecidableEq, Repr

end Sys2Proof
end

