-- ==== Sys2Proof/Decode.lean ====
section
/-! DEFINITION. The decoder (30_encoding.md R102, R103, R111 to R118), total on any bytes, and the encoder.
The opcode maps are seven tables, one quadrant `x` at a time, each row one `y`, each entry one `z`. -/

namespace Sys2Proof

open Machine

/-! ## The opcode maps -/

/-- Quadrant x = 0 of the base table (R111). -/
def baseX0 : List (List Instr) :=
  [[.nop, .ldBCImm16, .ldAtBCA, .incBC, .incB, .decB, .ldBImm, .rlca],
   [.exAFAFAlt, .addHLBC, .ldAAtBC, .decBC, .incC, .decC, .ldCImm, .rrca],
   [.djnzRel, .ldDEImm16, .ldAtDEA, .incDE, .incD, .decD, .ldDImm, .rla],
   [.jrRel, .addHLDE, .ldAAtDE, .decDE, .incE, .decE, .ldEImm, .rra],
   [.jrNZRel, .ldHLImm16, .ldAtAbsHL, .incHL, .incH, .decH, .ldHImm, .daa],
   [.jrZRel, .addHLHL, .ldHLAtAbs, .decHL, .incL, .decL, .ldLImm, .cpl],
   [.jrNCRel, .ldSPImm16, .ldAtAbsA, .incSP, .incAtHL, .decAtHL, .ldAtHLImm, .scf],
   [.jrCRel, .addHLSP, .ldAAtAbs, .decSP, .incA, .decA, .ldAImm, .ccf]]

/-- Quadrant x = 1 of the base table (R111). -/
def baseX1 : List (List Instr) :=
  [[.ldBB, .ldBC, .ldBD, .ldBE, .ldBH, .ldBL, .ldBAtHL, .ldBA],
   [.ldCB, .ldCC, .ldCD, .ldCE, .ldCH, .ldCL, .ldCAtHL, .ldCA],
   [.ldDB, .ldDC, .ldDD, .ldDE, .ldDH, .ldDL, .ldDAtHL, .ldDA],
   [.ldEB, .ldEC, .ldED, .ldEE, .ldEH, .ldEL, .ldEAtHL, .ldEA],
   [.ldHB, .ldHC, .ldHD, .ldHE, .ldHH, .ldHL, .ldHAtHL, .ldHA],
   [.ldLB, .ldLC, .ldLD, .ldLE, .ldLH, .ldLL, .ldLAtHL, .ldLA],
   [.ldAtHLB, .ldAtHLC, .ldAtHLD, .ldAtHLE, .ldAtHLH, .ldAtHLL, .halt, .ldAtHLA],
   [.ldAB, .ldAC, .ldAD, .ldAE, .ldAH, .ldAL, .ldAAtHL, .ldAA]]

/-- Quadrant x = 2 of the base table (R111). -/
def baseX2 : List (List Instr) :=
  [[.addAB, .addAC, .addAD, .addAE, .addAH, .addAL, .addAAtHL, .addAA],
   [.adcAB, .adcAC, .adcAD, .adcAE, .adcAH, .adcAL, .adcAAtHL, .adcAA],
   [.subB, .subC, .subD, .subE, .subH, .subL, .subAtHL, .subA],
   [.sbcAB, .sbcAC, .sbcAD, .sbcAE, .sbcAH, .sbcAL, .sbcAAtHL, .sbcAA],
   [.andB, .andC, .andD, .andE, .andH, .andL, .andAtHL, .andA],
   [.xorB, .xorC, .xorD, .xorE, .xorH, .xorL, .xorAtHL, .xorA],
   [.orB, .orC, .orD, .orE, .orH, .orL, .orAtHL, .orA],
   [.cpB, .cpC, .cpD, .cpE, .cpH, .cpL, .cpAtHL, .cpA]]

/-- Quadrant x = 3 of the base table (R111). -/
def baseX3 : List (List Instr) :=
  [[.retNZ, .popBC, .jpNZImm16, .jpImm16, .callNZImm16, .pushBC, .addAImm, .rst00],
   [.retZ, .ret, .jpZImm16, .prefixCB, .callZImm16, .callImm16, .adcAImm, .rst08],
   [.retNC, .popDE, .jpNCImm16, .outAtImmA, .callNCImm16, .pushDE, .subImm, .rst10],
   [.retC, .exx, .jpCImm16, .inAAtImm, .callCImm16, .prefixDD, .sbcAImm, .rst18],
   [.retPO, .popHL, .jpPOImm16, .exAtSPHL, .callPOImm16, .pushHL, .andImm, .rst20],
   [.retPE, .jpAtHL, .jpPEImm16, .exDEHL, .callPEImm16, .prefixED, .xorImm, .rst28],
   [.retP, .popAF, .jpPImm16, .di, .callPImm16, .pushAF, .orImm, .rst30],
   [.retM, .ldSPHL, .jpMImm16, .ei, .callMImm16, .prefixFD, .cpImm, .rst38]]

/-- Quadrant x = 0 of the CB table (R112). -/
def cbX0 : List (List Instr) :=
  [[.rlcB, .rlcC, .rlcD, .rlcE, .rlcH, .rlcL, .rlcAtHL, .rlcA],
   [.rrcB, .rrcC, .rrcD, .rrcE, .rrcH, .rrcL, .rrcAtHL, .rrcA],
   [.rlB, .rlC, .rlD, .rlE, .rlH, .rlL, .rlAtHL, .rlA],
   [.rrB, .rrC, .rrD, .rrE, .rrH, .rrL, .rrAtHL, .rrA],
   [.slaB, .slaC, .slaD, .slaE, .slaH, .slaL, .slaAtHL, .slaA],
   [.sraB, .sraC, .sraD, .sraE, .sraH, .sraL, .sraAtHL, .sraA],
   [.sllB, .sllC, .sllD, .sllE, .sllH, .sllL, .sllAtHL, .sllA],
   [.srlB, .srlC, .srlD, .srlE, .srlH, .srlL, .srlAtHL, .srlA]]

/-- Quadrant x = 1 of the CB table (R112). -/
def cbX1 : List (List Instr) :=
  [[.bit0B, .bit0C, .bit0D, .bit0E, .bit0H, .bit0L, .bit0AtHL, .bit0A],
   [.bit1B, .bit1C, .bit1D, .bit1E, .bit1H, .bit1L, .bit1AtHL, .bit1A],
   [.bit2B, .bit2C, .bit2D, .bit2E, .bit2H, .bit2L, .bit2AtHL, .bit2A],
   [.bit3B, .bit3C, .bit3D, .bit3E, .bit3H, .bit3L, .bit3AtHL, .bit3A],
   [.bit4B, .bit4C, .bit4D, .bit4E, .bit4H, .bit4L, .bit4AtHL, .bit4A],
   [.bit5B, .bit5C, .bit5D, .bit5E, .bit5H, .bit5L, .bit5AtHL, .bit5A],
   [.bit6B, .bit6C, .bit6D, .bit6E, .bit6H, .bit6L, .bit6AtHL, .bit6A],
   [.bit7B, .bit7C, .bit7D, .bit7E, .bit7H, .bit7L, .bit7AtHL, .bit7A]]

/-- Quadrant x = 2 of the CB table (R112). -/
def cbX2 : List (List Instr) :=
  [[.res0B, .res0C, .res0D, .res0E, .res0H, .res0L, .res0AtHL, .res0A],
   [.res1B, .res1C, .res1D, .res1E, .res1H, .res1L, .res1AtHL, .res1A],
   [.res2B, .res2C, .res2D, .res2E, .res2H, .res2L, .res2AtHL, .res2A],
   [.res3B, .res3C, .res3D, .res3E, .res3H, .res3L, .res3AtHL, .res3A],
   [.res4B, .res4C, .res4D, .res4E, .res4H, .res4L, .res4AtHL, .res4A],
   [.res5B, .res5C, .res5D, .res5E, .res5H, .res5L, .res5AtHL, .res5A],
   [.res6B, .res6C, .res6D, .res6E, .res6H, .res6L, .res6AtHL, .res6A],
   [.res7B, .res7C, .res7D, .res7E, .res7H, .res7L, .res7AtHL, .res7A]]

/-- Quadrant x = 3 of the CB table (R112). -/
def cbX3 : List (List Instr) :=
  [[.set0B, .set0C, .set0D, .set0E, .set0H, .set0L, .set0AtHL, .set0A],
   [.set1B, .set1C, .set1D, .set1E, .set1H, .set1L, .set1AtHL, .set1A],
   [.set2B, .set2C, .set2D, .set2E, .set2H, .set2L, .set2AtHL, .set2A],
   [.set3B, .set3C, .set3D, .set3E, .set3H, .set3L, .set3AtHL, .set3A],
   [.set4B, .set4C, .set4D, .set4E, .set4H, .set4L, .set4AtHL, .set4A],
   [.set5B, .set5C, .set5D, .set5E, .set5H, .set5L, .set5AtHL, .set5A],
   [.set6B, .set6C, .set6D, .set6E, .set6H, .set6L, .set6AtHL, .set6A],
   [.set7B, .set7C, .set7D, .set7E, .set7H, .set7L, .set7AtHL, .set7A]]

/-- Quadrant x = 0 of the ED table (R113). -/
def edX0 : List (List Instr) :=
  [[.nopEd 0x00, .nopEd 0x01, .nopEd 0x02, .nopEd 0x03, .nopEd 0x04, .nopEd 0x05, .nopEd 0x06, .nopEd 0x07],
   [.nopEd 0x08, .nopEd 0x09, .nopEd 0x0A, .nopEd 0x0B, .nopEd 0x0C, .nopEd 0x0D, .nopEd 0x0E, .nopEd 0x0F],
   [.nopEd 0x10, .nopEd 0x11, .nopEd 0x12, .nopEd 0x13, .nopEd 0x14, .nopEd 0x15, .nopEd 0x16, .nopEd 0x17],
   [.nopEd 0x18, .nopEd 0x19, .nopEd 0x1A, .nopEd 0x1B, .nopEd 0x1C, .nopEd 0x1D, .nopEd 0x1E, .nopEd 0x1F],
   [.nopEd 0x20, .nopEd 0x21, .nopEd 0x22, .nopEd 0x23, .nopEd 0x24, .nopEd 0x25, .nopEd 0x26, .nopEd 0x27],
   [.nopEd 0x28, .nopEd 0x29, .nopEd 0x2A, .nopEd 0x2B, .nopEd 0x2C, .nopEd 0x2D, .nopEd 0x2E, .nopEd 0x2F],
   [.nopEd 0x30, .nopEd 0x31, .nopEd 0x32, .nopEd 0x33, .nopEd 0x34, .nopEd 0x35, .nopEd 0x36, .nopEd 0x37],
   [.nopEd 0x38, .nopEd 0x39, .nopEd 0x3A, .nopEd 0x3B, .nopEd 0x3C, .nopEd 0x3D, .nopEd 0x3E, .nopEd 0x3F]]

/-- Quadrant x = 1 of the ED table (R113). -/
def edX1 : List (List Instr) :=
  [[.inBAtC, .outAtCB, .sbcHLBC, .ldAtAbsBC, .neg 0, .retn 0, .im0 0, .ldIA],
   [.inCAtC, .outAtCC, .adcHLBC, .ldBCAtAbs, .neg 1, .reti, .im0 1, .ldRA],
   [.inDAtC, .outAtCD, .sbcHLDE, .ldAtAbsDE, .neg 2, .retn 2, .im1 2, .ldAI],
   [.inEAtC, .outAtCE, .adcHLDE, .ldDEAtAbs, .neg 3, .retn 3, .im2 3, .ldAR],
   [.inHAtC, .outAtCH, .sbcHLHL, .ldAtAbsHLEd, .neg 4, .retn 4, .im0 4, .rrd],
   [.inLAtC, .outAtCL, .adcHLHL, .ldHLAtAbsEd, .neg 5, .retn 5, .im0 5, .rld],
   [.inAtC, .outAtC0, .sbcHLSP, .ldAtAbsSP, .neg 6, .retn 6, .im1 6, .nopEd 0x77],
   [.inAAtC, .outAtCA, .adcHLSP, .ldSPAtAbs, .neg 7, .retn 7, .im2 7, .nopEd 0x7F]]

/-- Quadrant x = 2 of the ED table (R113). -/
def edX2 : List (List Instr) :=
  [[.nopEd 0x80, .nopEd 0x81, .nopEd 0x82, .nopEd 0x83, .nopEd 0x84, .nopEd 0x85, .nopEd 0x86, .nopEd 0x87],
   [.nopEd 0x88, .nopEd 0x89, .nopEd 0x8A, .nopEd 0x8B, .nopEd 0x8C, .nopEd 0x8D, .nopEd 0x8E, .nopEd 0x8F],
   [.nopEd 0x90, .nopEd 0x91, .nopEd 0x92, .nopEd 0x93, .nopEd 0x94, .nopEd 0x95, .nopEd 0x96, .nopEd 0x97],
   [.nopEd 0x98, .nopEd 0x99, .nopEd 0x9A, .nopEd 0x9B, .nopEd 0x9C, .nopEd 0x9D, .nopEd 0x9E, .nopEd 0x9F],
   [.ldi, .cpi, .ini, .outi, .nopEd 0xA4, .nopEd 0xA5, .nopEd 0xA6, .nopEd 0xA7],
   [.ldd, .cpd, .ind, .outd, .nopEd 0xAC, .nopEd 0xAD, .nopEd 0xAE, .nopEd 0xAF],
   [.ldir, .cpir, .inir, .otir, .nopEd 0xB4, .nopEd 0xB5, .nopEd 0xB6, .nopEd 0xB7],
   [.lddr, .cpdr, .indr, .otdr, .nopEd 0xBC, .nopEd 0xBD, .nopEd 0xBE, .nopEd 0xBF]]

/-- Quadrant x = 3 of the ED table (R113). -/
def edX3 : List (List Instr) :=
  [[.nopEd 0xC0, .nopEd 0xC1, .nopEd 0xC2, .nopEd 0xC3, .nopEd 0xC4, .nopEd 0xC5, .nopEd 0xC6, .nopEd 0xC7],
   [.nopEd 0xC8, .nopEd 0xC9, .nopEd 0xCA, .nopEd 0xCB, .nopEd 0xCC, .nopEd 0xCD, .nopEd 0xCE, .nopEd 0xCF],
   [.nopEd 0xD0, .nopEd 0xD1, .nopEd 0xD2, .nopEd 0xD3, .nopEd 0xD4, .nopEd 0xD5, .nopEd 0xD6, .nopEd 0xD7],
   [.nopEd 0xD8, .nopEd 0xD9, .nopEd 0xDA, .nopEd 0xDB, .nopEd 0xDC, .nopEd 0xDD, .nopEd 0xDE, .nopEd 0xDF],
   [.nopEd 0xE0, .nopEd 0xE1, .nopEd 0xE2, .nopEd 0xE3, .nopEd 0xE4, .nopEd 0xE5, .nopEd 0xE6, .nopEd 0xE7],
   [.nopEd 0xE8, .nopEd 0xE9, .nopEd 0xEA, .nopEd 0xEB, .nopEd 0xEC, .nopEd 0xED, .nopEd 0xEE, .nopEd 0xEF],
   [.nopEd 0xF0, .nopEd 0xF1, .nopEd 0xF2, .nopEd 0xF3, .nopEd 0xF4, .nopEd 0xF5, .nopEd 0xF6, .nopEd 0xF7],
   [.nopEd 0xF8, .nopEd 0xF9, .nopEd 0xFA, .nopEd 0xFB, .nopEd 0xFC, .nopEd 0xFD, .nopEd 0xFE, .nopEd 0xFF]]

/-- Quadrant x = 0 of the table after `DD` (R114, R118). -/
def ddX0 : List (List Instr) :=
  [[.nopPfx .ix, .ldBCImm16Pfx .ix, .ldAtBCAPfx .ix, .incBCPfx .ix, .incBPfx .ix, .decBPfx .ix, .ldBImmPfx .ix, .rlcaPfx .ix],
   [.exAFAFAltPfx .ix, .addIXBC, .ldAAtBCPfx .ix, .decBCPfx .ix, .incCPfx .ix, .decCPfx .ix, .ldCImmPfx .ix, .rrcaPfx .ix],
   [.djnzRelPfx .ix, .ldDEImm16Pfx .ix, .ldAtDEAPfx .ix, .incDEPfx .ix, .incDPfx .ix, .decDPfx .ix, .ldDImmPfx .ix, .rlaPfx .ix],
   [.jrRelPfx .ix, .addIXDE, .ldAAtDEPfx .ix, .decDEPfx .ix, .incEPfx .ix, .decEPfx .ix, .ldEImmPfx .ix, .rraPfx .ix],
   [.jrNZRelPfx .ix, .ldIXImm16, .ldAtAbsIX, .incIX, .incIXH, .decIXH, .ldIXHImm, .daaPfx .ix],
   [.jrZRelPfx .ix, .addIXIX, .ldIXAtAbs, .decIX, .incIXL, .decIXL, .ldIXLImm, .cplPfx .ix],
   [.jrNCRelPfx .ix, .ldSPImm16Pfx .ix, .ldAtAbsAPfx .ix, .incSPPfx .ix, .incAtIXd, .decAtIXd, .ldAtIXdImm, .scfPfx .ix],
   [.jrCRelPfx .ix, .addIXSP, .ldAAtAbsPfx .ix, .decSPPfx .ix, .incAPfx .ix, .decAPfx .ix, .ldAImmPfx .ix, .ccfPfx .ix]]

/-- Quadrant x = 1 of the table after `DD` (R114, R118). -/
def ddX1 : List (List Instr) :=
  [[.ldBBPfx .ix, .ldBCPfx .ix, .ldBDPfx .ix, .ldBEPfx .ix, .ldBIXH, .ldBIXL, .ldBAtIXd, .ldBAPfx .ix],
   [.ldCBPfx .ix, .ldCCPfx .ix, .ldCDPfx .ix, .ldCEPfx .ix, .ldCIXH, .ldCIXL, .ldCAtIXd, .ldCAPfx .ix],
   [.ldDBPfx .ix, .ldDCPfx .ix, .ldDDPfx .ix, .ldDEPfx .ix, .ldDIXH, .ldDIXL, .ldDAtIXd, .ldDAPfx .ix],
   [.ldEBPfx .ix, .ldECPfx .ix, .ldEDPfx .ix, .ldEEPfx .ix, .ldEIXH, .ldEIXL, .ldEAtIXd, .ldEAPfx .ix],
   [.ldIXHB, .ldIXHC, .ldIXHD, .ldIXHE, .ldIXHIXH, .ldIXHIXL, .ldHAtIXd, .ldIXHA],
   [.ldIXLB, .ldIXLC, .ldIXLD, .ldIXLE, .ldIXLIXH, .ldIXLIXL, .ldLAtIXd, .ldIXLA],
   [.ldAtIXdB, .ldAtIXdC, .ldAtIXdD, .ldAtIXdE, .ldAtIXdH, .ldAtIXdL, .haltPfx .ix, .ldAtIXdA],
   [.ldABPfx .ix, .ldACPfx .ix, .ldADPfx .ix, .ldAEPfx .ix, .ldAIXH, .ldAIXL, .ldAAtIXd, .ldAAPfx .ix]]

/-- Quadrant x = 2 of the table after `DD` (R114, R118). -/
def ddX2 : List (List Instr) :=
  [[.addABPfx .ix, .addACPfx .ix, .addADPfx .ix, .addAEPfx .ix, .addAIXH, .addAIXL, .addAAtIXd, .addAAPfx .ix],
   [.adcABPfx .ix, .adcACPfx .ix, .adcADPfx .ix, .adcAEPfx .ix, .adcAIXH, .adcAIXL, .adcAAtIXd, .adcAAPfx .ix],
   [.subBPfx .ix, .subCPfx .ix, .subDPfx .ix, .subEPfx .ix, .subIXH, .subIXL, .subAtIXd, .subAPfx .ix],
   [.sbcABPfx .ix, .sbcACPfx .ix, .sbcADPfx .ix, .sbcAEPfx .ix, .sbcAIXH, .sbcAIXL, .sbcAAtIXd, .sbcAAPfx .ix],
   [.andBPfx .ix, .andCPfx .ix, .andDPfx .ix, .andEPfx .ix, .andIXH, .andIXL, .andAtIXd, .andAPfx .ix],
   [.xorBPfx .ix, .xorCPfx .ix, .xorDPfx .ix, .xorEPfx .ix, .xorIXH, .xorIXL, .xorAtIXd, .xorAPfx .ix],
   [.orBPfx .ix, .orCPfx .ix, .orDPfx .ix, .orEPfx .ix, .orIXH, .orIXL, .orAtIXd, .orAPfx .ix],
   [.cpBPfx .ix, .cpCPfx .ix, .cpDPfx .ix, .cpEPfx .ix, .cpIXH, .cpIXL, .cpAtIXd, .cpAPfx .ix]]

/-- Quadrant x = 3 of the table after `DD` (R114, R118). -/
def ddX3 : List (List Instr) :=
  [[.retNZPfx .ix, .popBCPfx .ix, .jpNZImm16Pfx .ix, .jpImm16Pfx .ix, .callNZImm16Pfx .ix, .pushBCPfx .ix, .addAImmPfx .ix, .rst00Pfx .ix],
   [.retZPfx .ix, .retPfx .ix, .jpZImm16Pfx .ix, .prefixCB, .callZImm16Pfx .ix, .callImm16Pfx .ix, .adcAImmPfx .ix, .rst08Pfx .ix],
   [.retNCPfx .ix, .popDEPfx .ix, .jpNCImm16Pfx .ix, .outAtImmAPfx .ix, .callNCImm16Pfx .ix, .pushDEPfx .ix, .subImmPfx .ix, .rst10Pfx .ix],
   [.retCPfx .ix, .exxPfx .ix, .jpCImm16Pfx .ix, .inAAtImmPfx .ix, .callCImm16Pfx .ix, .prefixDDChain .ix, .sbcAImmPfx .ix, .rst18Pfx .ix],
   [.retPOPfx .ix, .popIX, .jpPOImm16Pfx .ix, .exAtSPIX, .callPOImm16Pfx .ix, .pushIX, .andImmPfx .ix, .rst20Pfx .ix],
   [.retPEPfx .ix, .jpAtIX, .jpPEImm16Pfx .ix, .exDEHLPfx .ix, .callPEImm16Pfx .ix, .prefixEDPfx .ix, .xorImmPfx .ix, .rst28Pfx .ix],
   [.retPPfx .ix, .popAFPfx .ix, .jpPImm16Pfx .ix, .diPfx .ix, .callPImm16Pfx .ix, .pushAFPfx .ix, .orImmPfx .ix, .rst30Pfx .ix],
   [.retMPfx .ix, .ldSPIX, .jpMImm16Pfx .ix, .eiPfx .ix, .callMImm16Pfx .ix, .prefixFDChain .ix, .cpImmPfx .ix, .rst38Pfx .ix]]

/-- Quadrant x = 0 of the table after `FD` (R114, R118). -/
def fdX0 : List (List Instr) :=
  [[.nopPfx .iy, .ldBCImm16Pfx .iy, .ldAtBCAPfx .iy, .incBCPfx .iy, .incBPfx .iy, .decBPfx .iy, .ldBImmPfx .iy, .rlcaPfx .iy],
   [.exAFAFAltPfx .iy, .addIYBC, .ldAAtBCPfx .iy, .decBCPfx .iy, .incCPfx .iy, .decCPfx .iy, .ldCImmPfx .iy, .rrcaPfx .iy],
   [.djnzRelPfx .iy, .ldDEImm16Pfx .iy, .ldAtDEAPfx .iy, .incDEPfx .iy, .incDPfx .iy, .decDPfx .iy, .ldDImmPfx .iy, .rlaPfx .iy],
   [.jrRelPfx .iy, .addIYDE, .ldAAtDEPfx .iy, .decDEPfx .iy, .incEPfx .iy, .decEPfx .iy, .ldEImmPfx .iy, .rraPfx .iy],
   [.jrNZRelPfx .iy, .ldIYImm16, .ldAtAbsIY, .incIY, .incIYH, .decIYH, .ldIYHImm, .daaPfx .iy],
   [.jrZRelPfx .iy, .addIYIY, .ldIYAtAbs, .decIY, .incIYL, .decIYL, .ldIYLImm, .cplPfx .iy],
   [.jrNCRelPfx .iy, .ldSPImm16Pfx .iy, .ldAtAbsAPfx .iy, .incSPPfx .iy, .incAtIYd, .decAtIYd, .ldAtIYdImm, .scfPfx .iy],
   [.jrCRelPfx .iy, .addIYSP, .ldAAtAbsPfx .iy, .decSPPfx .iy, .incAPfx .iy, .decAPfx .iy, .ldAImmPfx .iy, .ccfPfx .iy]]

/-- Quadrant x = 1 of the table after `FD` (R114, R118). -/
def fdX1 : List (List Instr) :=
  [[.ldBBPfx .iy, .ldBCPfx .iy, .ldBDPfx .iy, .ldBEPfx .iy, .ldBIYH, .ldBIYL, .ldBAtIYd, .ldBAPfx .iy],
   [.ldCBPfx .iy, .ldCCPfx .iy, .ldCDPfx .iy, .ldCEPfx .iy, .ldCIYH, .ldCIYL, .ldCAtIYd, .ldCAPfx .iy],
   [.ldDBPfx .iy, .ldDCPfx .iy, .ldDDPfx .iy, .ldDEPfx .iy, .ldDIYH, .ldDIYL, .ldDAtIYd, .ldDAPfx .iy],
   [.ldEBPfx .iy, .ldECPfx .iy, .ldEDPfx .iy, .ldEEPfx .iy, .ldEIYH, .ldEIYL, .ldEAtIYd, .ldEAPfx .iy],
   [.ldIYHB, .ldIYHC, .ldIYHD, .ldIYHE, .ldIYHIYH, .ldIYHIYL, .ldHAtIYd, .ldIYHA],
   [.ldIYLB, .ldIYLC, .ldIYLD, .ldIYLE, .ldIYLIYH, .ldIYLIYL, .ldLAtIYd, .ldIYLA],
   [.ldAtIYdB, .ldAtIYdC, .ldAtIYdD, .ldAtIYdE, .ldAtIYdH, .ldAtIYdL, .haltPfx .iy, .ldAtIYdA],
   [.ldABPfx .iy, .ldACPfx .iy, .ldADPfx .iy, .ldAEPfx .iy, .ldAIYH, .ldAIYL, .ldAAtIYd, .ldAAPfx .iy]]

/-- Quadrant x = 2 of the table after `FD` (R114, R118). -/
def fdX2 : List (List Instr) :=
  [[.addABPfx .iy, .addACPfx .iy, .addADPfx .iy, .addAEPfx .iy, .addAIYH, .addAIYL, .addAAtIYd, .addAAPfx .iy],
   [.adcABPfx .iy, .adcACPfx .iy, .adcADPfx .iy, .adcAEPfx .iy, .adcAIYH, .adcAIYL, .adcAAtIYd, .adcAAPfx .iy],
   [.subBPfx .iy, .subCPfx .iy, .subDPfx .iy, .subEPfx .iy, .subIYH, .subIYL, .subAtIYd, .subAPfx .iy],
   [.sbcABPfx .iy, .sbcACPfx .iy, .sbcADPfx .iy, .sbcAEPfx .iy, .sbcAIYH, .sbcAIYL, .sbcAAtIYd, .sbcAAPfx .iy],
   [.andBPfx .iy, .andCPfx .iy, .andDPfx .iy, .andEPfx .iy, .andIYH, .andIYL, .andAtIYd, .andAPfx .iy],
   [.xorBPfx .iy, .xorCPfx .iy, .xorDPfx .iy, .xorEPfx .iy, .xorIYH, .xorIYL, .xorAtIYd, .xorAPfx .iy],
   [.orBPfx .iy, .orCPfx .iy, .orDPfx .iy, .orEPfx .iy, .orIYH, .orIYL, .orAtIYd, .orAPfx .iy],
   [.cpBPfx .iy, .cpCPfx .iy, .cpDPfx .iy, .cpEPfx .iy, .cpIYH, .cpIYL, .cpAtIYd, .cpAPfx .iy]]

/-- Quadrant x = 3 of the table after `FD` (R114, R118). -/
def fdX3 : List (List Instr) :=
  [[.retNZPfx .iy, .popBCPfx .iy, .jpNZImm16Pfx .iy, .jpImm16Pfx .iy, .callNZImm16Pfx .iy, .pushBCPfx .iy, .addAImmPfx .iy, .rst00Pfx .iy],
   [.retZPfx .iy, .retPfx .iy, .jpZImm16Pfx .iy, .prefixCB, .callZImm16Pfx .iy, .callImm16Pfx .iy, .adcAImmPfx .iy, .rst08Pfx .iy],
   [.retNCPfx .iy, .popDEPfx .iy, .jpNCImm16Pfx .iy, .outAtImmAPfx .iy, .callNCImm16Pfx .iy, .pushDEPfx .iy, .subImmPfx .iy, .rst10Pfx .iy],
   [.retCPfx .iy, .exxPfx .iy, .jpCImm16Pfx .iy, .inAAtImmPfx .iy, .callCImm16Pfx .iy, .prefixDDChain .iy, .sbcAImmPfx .iy, .rst18Pfx .iy],
   [.retPOPfx .iy, .popIY, .jpPOImm16Pfx .iy, .exAtSPIY, .callPOImm16Pfx .iy, .pushIY, .andImmPfx .iy, .rst20Pfx .iy],
   [.retPEPfx .iy, .jpAtIY, .jpPEImm16Pfx .iy, .exDEHLPfx .iy, .callPEImm16Pfx .iy, .prefixEDPfx .iy, .xorImmPfx .iy, .rst28Pfx .iy],
   [.retPPfx .iy, .popAFPfx .iy, .jpPImm16Pfx .iy, .diPfx .iy, .callPImm16Pfx .iy, .pushAFPfx .iy, .orImmPfx .iy, .rst30Pfx .iy],
   [.retMPfx .iy, .ldSPIY, .jpMImm16Pfx .iy, .eiPfx .iy, .callMImm16Pfx .iy, .prefixFDChain .iy, .cpImmPfx .iy, .rst38Pfx .iy]]

/-- Quadrant x = 0 of the table after `DD CB d` (R115). -/
def ddcbX0 : List (List Instr) :=
  [[.ldBRlcAtIXd, .ldCRlcAtIXd, .ldDRlcAtIXd, .ldERlcAtIXd, .ldHRlcAtIXd, .ldLRlcAtIXd, .rlcAtIXd, .ldARlcAtIXd],
   [.ldBRrcAtIXd, .ldCRrcAtIXd, .ldDRrcAtIXd, .ldERrcAtIXd, .ldHRrcAtIXd, .ldLRrcAtIXd, .rrcAtIXd, .ldARrcAtIXd],
   [.ldBRlAtIXd, .ldCRlAtIXd, .ldDRlAtIXd, .ldERlAtIXd, .ldHRlAtIXd, .ldLRlAtIXd, .rlAtIXd, .ldARlAtIXd],
   [.ldBRrAtIXd, .ldCRrAtIXd, .ldDRrAtIXd, .ldERrAtIXd, .ldHRrAtIXd, .ldLRrAtIXd, .rrAtIXd, .ldARrAtIXd],
   [.ldBSlaAtIXd, .ldCSlaAtIXd, .ldDSlaAtIXd, .ldESlaAtIXd, .ldHSlaAtIXd, .ldLSlaAtIXd, .slaAtIXd, .ldASlaAtIXd],
   [.ldBSraAtIXd, .ldCSraAtIXd, .ldDSraAtIXd, .ldESraAtIXd, .ldHSraAtIXd, .ldLSraAtIXd, .sraAtIXd, .ldASraAtIXd],
   [.ldBSllAtIXd, .ldCSllAtIXd, .ldDSllAtIXd, .ldESllAtIXd, .ldHSllAtIXd, .ldLSllAtIXd, .sllAtIXd, .ldASllAtIXd],
   [.ldBSrlAtIXd, .ldCSrlAtIXd, .ldDSrlAtIXd, .ldESrlAtIXd, .ldHSrlAtIXd, .ldLSrlAtIXd, .srlAtIXd, .ldASrlAtIXd]]

/-- Quadrant x = 1 of the table after `DD CB d` (R115). -/
def ddcbX1 : List (List Instr) :=
  [[.bit0AtIXd 0, .bit0AtIXd 1, .bit0AtIXd 2, .bit0AtIXd 3, .bit0AtIXd 4, .bit0AtIXd 5, .bit0AtIXd 6, .bit0AtIXd 7],
   [.bit1AtIXd 0, .bit1AtIXd 1, .bit1AtIXd 2, .bit1AtIXd 3, .bit1AtIXd 4, .bit1AtIXd 5, .bit1AtIXd 6, .bit1AtIXd 7],
   [.bit2AtIXd 0, .bit2AtIXd 1, .bit2AtIXd 2, .bit2AtIXd 3, .bit2AtIXd 4, .bit2AtIXd 5, .bit2AtIXd 6, .bit2AtIXd 7],
   [.bit3AtIXd 0, .bit3AtIXd 1, .bit3AtIXd 2, .bit3AtIXd 3, .bit3AtIXd 4, .bit3AtIXd 5, .bit3AtIXd 6, .bit3AtIXd 7],
   [.bit4AtIXd 0, .bit4AtIXd 1, .bit4AtIXd 2, .bit4AtIXd 3, .bit4AtIXd 4, .bit4AtIXd 5, .bit4AtIXd 6, .bit4AtIXd 7],
   [.bit5AtIXd 0, .bit5AtIXd 1, .bit5AtIXd 2, .bit5AtIXd 3, .bit5AtIXd 4, .bit5AtIXd 5, .bit5AtIXd 6, .bit5AtIXd 7],
   [.bit6AtIXd 0, .bit6AtIXd 1, .bit6AtIXd 2, .bit6AtIXd 3, .bit6AtIXd 4, .bit6AtIXd 5, .bit6AtIXd 6, .bit6AtIXd 7],
   [.bit7AtIXd 0, .bit7AtIXd 1, .bit7AtIXd 2, .bit7AtIXd 3, .bit7AtIXd 4, .bit7AtIXd 5, .bit7AtIXd 6, .bit7AtIXd 7]]

/-- Quadrant x = 2 of the table after `DD CB d` (R115). -/
def ddcbX2 : List (List Instr) :=
  [[.ldBRes0AtIXd, .ldCRes0AtIXd, .ldDRes0AtIXd, .ldERes0AtIXd, .ldHRes0AtIXd, .ldLRes0AtIXd, .res0AtIXd, .ldARes0AtIXd],
   [.ldBRes1AtIXd, .ldCRes1AtIXd, .ldDRes1AtIXd, .ldERes1AtIXd, .ldHRes1AtIXd, .ldLRes1AtIXd, .res1AtIXd, .ldARes1AtIXd],
   [.ldBRes2AtIXd, .ldCRes2AtIXd, .ldDRes2AtIXd, .ldERes2AtIXd, .ldHRes2AtIXd, .ldLRes2AtIXd, .res2AtIXd, .ldARes2AtIXd],
   [.ldBRes3AtIXd, .ldCRes3AtIXd, .ldDRes3AtIXd, .ldERes3AtIXd, .ldHRes3AtIXd, .ldLRes3AtIXd, .res3AtIXd, .ldARes3AtIXd],
   [.ldBRes4AtIXd, .ldCRes4AtIXd, .ldDRes4AtIXd, .ldERes4AtIXd, .ldHRes4AtIXd, .ldLRes4AtIXd, .res4AtIXd, .ldARes4AtIXd],
   [.ldBRes5AtIXd, .ldCRes5AtIXd, .ldDRes5AtIXd, .ldERes5AtIXd, .ldHRes5AtIXd, .ldLRes5AtIXd, .res5AtIXd, .ldARes5AtIXd],
   [.ldBRes6AtIXd, .ldCRes6AtIXd, .ldDRes6AtIXd, .ldERes6AtIXd, .ldHRes6AtIXd, .ldLRes6AtIXd, .res6AtIXd, .ldARes6AtIXd],
   [.ldBRes7AtIXd, .ldCRes7AtIXd, .ldDRes7AtIXd, .ldERes7AtIXd, .ldHRes7AtIXd, .ldLRes7AtIXd, .res7AtIXd, .ldARes7AtIXd]]

/-- Quadrant x = 3 of the table after `DD CB d` (R115). -/
def ddcbX3 : List (List Instr) :=
  [[.ldBSet0AtIXd, .ldCSet0AtIXd, .ldDSet0AtIXd, .ldESet0AtIXd, .ldHSet0AtIXd, .ldLSet0AtIXd, .set0AtIXd, .ldASet0AtIXd],
   [.ldBSet1AtIXd, .ldCSet1AtIXd, .ldDSet1AtIXd, .ldESet1AtIXd, .ldHSet1AtIXd, .ldLSet1AtIXd, .set1AtIXd, .ldASet1AtIXd],
   [.ldBSet2AtIXd, .ldCSet2AtIXd, .ldDSet2AtIXd, .ldESet2AtIXd, .ldHSet2AtIXd, .ldLSet2AtIXd, .set2AtIXd, .ldASet2AtIXd],
   [.ldBSet3AtIXd, .ldCSet3AtIXd, .ldDSet3AtIXd, .ldESet3AtIXd, .ldHSet3AtIXd, .ldLSet3AtIXd, .set3AtIXd, .ldASet3AtIXd],
   [.ldBSet4AtIXd, .ldCSet4AtIXd, .ldDSet4AtIXd, .ldESet4AtIXd, .ldHSet4AtIXd, .ldLSet4AtIXd, .set4AtIXd, .ldASet4AtIXd],
   [.ldBSet5AtIXd, .ldCSet5AtIXd, .ldDSet5AtIXd, .ldESet5AtIXd, .ldHSet5AtIXd, .ldLSet5AtIXd, .set5AtIXd, .ldASet5AtIXd],
   [.ldBSet6AtIXd, .ldCSet6AtIXd, .ldDSet6AtIXd, .ldESet6AtIXd, .ldHSet6AtIXd, .ldLSet6AtIXd, .set6AtIXd, .ldASet6AtIXd],
   [.ldBSet7AtIXd, .ldCSet7AtIXd, .ldDSet7AtIXd, .ldESet7AtIXd, .ldHSet7AtIXd, .ldLSet7AtIXd, .set7AtIXd, .ldASet7AtIXd]]

/-- Quadrant x = 0 of the table after `FD CB d` (R115). -/
def fdcbX0 : List (List Instr) :=
  [[.ldBRlcAtIYd, .ldCRlcAtIYd, .ldDRlcAtIYd, .ldERlcAtIYd, .ldHRlcAtIYd, .ldLRlcAtIYd, .rlcAtIYd, .ldARlcAtIYd],
   [.ldBRrcAtIYd, .ldCRrcAtIYd, .ldDRrcAtIYd, .ldERrcAtIYd, .ldHRrcAtIYd, .ldLRrcAtIYd, .rrcAtIYd, .ldARrcAtIYd],
   [.ldBRlAtIYd, .ldCRlAtIYd, .ldDRlAtIYd, .ldERlAtIYd, .ldHRlAtIYd, .ldLRlAtIYd, .rlAtIYd, .ldARlAtIYd],
   [.ldBRrAtIYd, .ldCRrAtIYd, .ldDRrAtIYd, .ldERrAtIYd, .ldHRrAtIYd, .ldLRrAtIYd, .rrAtIYd, .ldARrAtIYd],
   [.ldBSlaAtIYd, .ldCSlaAtIYd, .ldDSlaAtIYd, .ldESlaAtIYd, .ldHSlaAtIYd, .ldLSlaAtIYd, .slaAtIYd, .ldASlaAtIYd],
   [.ldBSraAtIYd, .ldCSraAtIYd, .ldDSraAtIYd, .ldESraAtIYd, .ldHSraAtIYd, .ldLSraAtIYd, .sraAtIYd, .ldASraAtIYd],
   [.ldBSllAtIYd, .ldCSllAtIYd, .ldDSllAtIYd, .ldESllAtIYd, .ldHSllAtIYd, .ldLSllAtIYd, .sllAtIYd, .ldASllAtIYd],
   [.ldBSrlAtIYd, .ldCSrlAtIYd, .ldDSrlAtIYd, .ldESrlAtIYd, .ldHSrlAtIYd, .ldLSrlAtIYd, .srlAtIYd, .ldASrlAtIYd]]

/-- Quadrant x = 1 of the table after `FD CB d` (R115). -/
def fdcbX1 : List (List Instr) :=
  [[.bit0AtIYd 0, .bit0AtIYd 1, .bit0AtIYd 2, .bit0AtIYd 3, .bit0AtIYd 4, .bit0AtIYd 5, .bit0AtIYd 6, .bit0AtIYd 7],
   [.bit1AtIYd 0, .bit1AtIYd 1, .bit1AtIYd 2, .bit1AtIYd 3, .bit1AtIYd 4, .bit1AtIYd 5, .bit1AtIYd 6, .bit1AtIYd 7],
   [.bit2AtIYd 0, .bit2AtIYd 1, .bit2AtIYd 2, .bit2AtIYd 3, .bit2AtIYd 4, .bit2AtIYd 5, .bit2AtIYd 6, .bit2AtIYd 7],
   [.bit3AtIYd 0, .bit3AtIYd 1, .bit3AtIYd 2, .bit3AtIYd 3, .bit3AtIYd 4, .bit3AtIYd 5, .bit3AtIYd 6, .bit3AtIYd 7],
   [.bit4AtIYd 0, .bit4AtIYd 1, .bit4AtIYd 2, .bit4AtIYd 3, .bit4AtIYd 4, .bit4AtIYd 5, .bit4AtIYd 6, .bit4AtIYd 7],
   [.bit5AtIYd 0, .bit5AtIYd 1, .bit5AtIYd 2, .bit5AtIYd 3, .bit5AtIYd 4, .bit5AtIYd 5, .bit5AtIYd 6, .bit5AtIYd 7],
   [.bit6AtIYd 0, .bit6AtIYd 1, .bit6AtIYd 2, .bit6AtIYd 3, .bit6AtIYd 4, .bit6AtIYd 5, .bit6AtIYd 6, .bit6AtIYd 7],
   [.bit7AtIYd 0, .bit7AtIYd 1, .bit7AtIYd 2, .bit7AtIYd 3, .bit7AtIYd 4, .bit7AtIYd 5, .bit7AtIYd 6, .bit7AtIYd 7]]

/-- Quadrant x = 2 of the table after `FD CB d` (R115). -/
def fdcbX2 : List (List Instr) :=
  [[.ldBRes0AtIYd, .ldCRes0AtIYd, .ldDRes0AtIYd, .ldERes0AtIYd, .ldHRes0AtIYd, .ldLRes0AtIYd, .res0AtIYd, .ldARes0AtIYd],
   [.ldBRes1AtIYd, .ldCRes1AtIYd, .ldDRes1AtIYd, .ldERes1AtIYd, .ldHRes1AtIYd, .ldLRes1AtIYd, .res1AtIYd, .ldARes1AtIYd],
   [.ldBRes2AtIYd, .ldCRes2AtIYd, .ldDRes2AtIYd, .ldERes2AtIYd, .ldHRes2AtIYd, .ldLRes2AtIYd, .res2AtIYd, .ldARes2AtIYd],
   [.ldBRes3AtIYd, .ldCRes3AtIYd, .ldDRes3AtIYd, .ldERes3AtIYd, .ldHRes3AtIYd, .ldLRes3AtIYd, .res3AtIYd, .ldARes3AtIYd],
   [.ldBRes4AtIYd, .ldCRes4AtIYd, .ldDRes4AtIYd, .ldERes4AtIYd, .ldHRes4AtIYd, .ldLRes4AtIYd, .res4AtIYd, .ldARes4AtIYd],
   [.ldBRes5AtIYd, .ldCRes5AtIYd, .ldDRes5AtIYd, .ldERes5AtIYd, .ldHRes5AtIYd, .ldLRes5AtIYd, .res5AtIYd, .ldARes5AtIYd],
   [.ldBRes6AtIYd, .ldCRes6AtIYd, .ldDRes6AtIYd, .ldERes6AtIYd, .ldHRes6AtIYd, .ldLRes6AtIYd, .res6AtIYd, .ldARes6AtIYd],
   [.ldBRes7AtIYd, .ldCRes7AtIYd, .ldDRes7AtIYd, .ldERes7AtIYd, .ldHRes7AtIYd, .ldLRes7AtIYd, .res7AtIYd, .ldARes7AtIYd]]

/-- Quadrant x = 3 of the table after `FD CB d` (R115). -/
def fdcbX3 : List (List Instr) :=
  [[.ldBSet0AtIYd, .ldCSet0AtIYd, .ldDSet0AtIYd, .ldESet0AtIYd, .ldHSet0AtIYd, .ldLSet0AtIYd, .set0AtIYd, .ldASet0AtIYd],
   [.ldBSet1AtIYd, .ldCSet1AtIYd, .ldDSet1AtIYd, .ldESet1AtIYd, .ldHSet1AtIYd, .ldLSet1AtIYd, .set1AtIYd, .ldASet1AtIYd],
   [.ldBSet2AtIYd, .ldCSet2AtIYd, .ldDSet2AtIYd, .ldESet2AtIYd, .ldHSet2AtIYd, .ldLSet2AtIYd, .set2AtIYd, .ldASet2AtIYd],
   [.ldBSet3AtIYd, .ldCSet3AtIYd, .ldDSet3AtIYd, .ldESet3AtIYd, .ldHSet3AtIYd, .ldLSet3AtIYd, .set3AtIYd, .ldASet3AtIYd],
   [.ldBSet4AtIYd, .ldCSet4AtIYd, .ldDSet4AtIYd, .ldESet4AtIYd, .ldHSet4AtIYd, .ldLSet4AtIYd, .set4AtIYd, .ldASet4AtIYd],
   [.ldBSet5AtIYd, .ldCSet5AtIYd, .ldDSet5AtIYd, .ldESet5AtIYd, .ldHSet5AtIYd, .ldLSet5AtIYd, .set5AtIYd, .ldASet5AtIYd],
   [.ldBSet6AtIYd, .ldCSet6AtIYd, .ldDSet6AtIYd, .ldESet6AtIYd, .ldHSet6AtIYd, .ldLSet6AtIYd, .set6AtIYd, .ldASet6AtIYd],
   [.ldBSet7AtIYd, .ldCSet7AtIYd, .ldDSet7AtIYd, .ldESet7AtIYd, .ldHSet7AtIYd, .ldLSet7AtIYd, .set7AtIYd, .ldASet7AtIYd]]

/-- The entry at `x`, `y`, `z` of four quadrants (R102). -/
def lookup (q0 q1 q2 q3 : List (List Instr)) (op : Byte) : Instr :=
  let q :=
    match fieldX op with
    | 0 => q0
    | 1 => q1
    | 2 => q2
    | _ => q3
  (q.getD (fieldY op) []).getD (fieldZ op) .nop

/-- The base table (R111). -/
def baseTable (op : Byte) : Instr := lookup baseX0 baseX1 baseX2 baseX3 op

/-- The CB table (R112). -/
def cbTable (op : Byte) : Instr := lookup cbX0 cbX1 cbX2 cbX3 op

/-- The ED table (R113). -/
def edTable (op : Byte) : Instr := lookup edX0 edX1 edX2 edX3 op

/-- The table after `DD` (R114, R118). -/
def ddTable (op : Byte) : Instr := lookup ddX0 ddX1 ddX2 ddX3 op

/-- The table after `FD` (R114, R118). -/
def fdTable (op : Byte) : Instr := lookup fdX0 fdX1 fdX2 fdX3 op

/-- The table after `DD CB d` (R115). -/
def ddcbTable (op : Byte) : Instr := lookup ddcbX0 ddcbX1 ddcbX2 ddcbX3 op

/-- The table after `FD CB d` (R115). -/
def fdcbTable (op : Byte) : Instr := lookup fdcbX0 fdcbX1 fdcbX2 fdcbX3 op

/-! ## Operand bytes -/

/-- How many operand bytes follow the opcode: one for `n`, `e` or `d`, two for `nn` or `d n` (R110). -/
def Instr.operandBytes (i : Instr) : Nat :=
  match i with
  | .nopEd _ => 0
  | .neg _ => 0
  | .retn _ => 0
  | .im0 _ => 0
  | .im1 _ => 0
  | .im2 _ => 0
  | .nopPfx _ => 0
  | .ldBCImm16Pfx _ => 2
  | .ldAtBCAPfx _ => 0
  | .incBCPfx _ => 0
  | .incBPfx _ => 0
  | .decBPfx _ => 0
  | .ldBImmPfx _ => 1
  | .rlcaPfx _ => 0
  | .exAFAFAltPfx _ => 0
  | .ldAAtBCPfx _ => 0
  | .decBCPfx _ => 0
  | .incCPfx _ => 0
  | .decCPfx _ => 0
  | .ldCImmPfx _ => 1
  | .rrcaPfx _ => 0
  | .djnzRelPfx _ => 1
  | .ldDEImm16Pfx _ => 2
  | .ldAtDEAPfx _ => 0
  | .incDEPfx _ => 0
  | .incDPfx _ => 0
  | .decDPfx _ => 0
  | .ldDImmPfx _ => 1
  | .rlaPfx _ => 0
  | .jrRelPfx _ => 1
  | .ldAAtDEPfx _ => 0
  | .decDEPfx _ => 0
  | .incEPfx _ => 0
  | .decEPfx _ => 0
  | .ldEImmPfx _ => 1
  | .rraPfx _ => 0
  | .jrNZRelPfx _ => 1
  | .daaPfx _ => 0
  | .jrZRelPfx _ => 1
  | .cplPfx _ => 0
  | .jrNCRelPfx _ => 1
  | .ldSPImm16Pfx _ => 2
  | .ldAtAbsAPfx _ => 2
  | .incSPPfx _ => 0
  | .scfPfx _ => 0
  | .jrCRelPfx _ => 1
  | .ldAAtAbsPfx _ => 2
  | .decSPPfx _ => 0
  | .incAPfx _ => 0
  | .decAPfx _ => 0
  | .ldAImmPfx _ => 1
  | .ccfPfx _ => 0
  | .ldBBPfx _ => 0
  | .ldBCPfx _ => 0
  | .ldBDPfx _ => 0
  | .ldBEPfx _ => 0
  | .ldBAPfx _ => 0
  | .ldCBPfx _ => 0
  | .ldCCPfx _ => 0
  | .ldCDPfx _ => 0
  | .ldCEPfx _ => 0
  | .ldCAPfx _ => 0
  | .ldDBPfx _ => 0
  | .ldDCPfx _ => 0
  | .ldDDPfx _ => 0
  | .ldDEPfx _ => 0
  | .ldDAPfx _ => 0
  | .ldEBPfx _ => 0
  | .ldECPfx _ => 0
  | .ldEDPfx _ => 0
  | .ldEEPfx _ => 0
  | .ldEAPfx _ => 0
  | .haltPfx _ => 0
  | .ldABPfx _ => 0
  | .ldACPfx _ => 0
  | .ldADPfx _ => 0
  | .ldAEPfx _ => 0
  | .ldAAPfx _ => 0
  | .addABPfx _ => 0
  | .addACPfx _ => 0
  | .addADPfx _ => 0
  | .addAEPfx _ => 0
  | .addAAPfx _ => 0
  | .adcABPfx _ => 0
  | .adcACPfx _ => 0
  | .adcADPfx _ => 0
  | .adcAEPfx _ => 0
  | .adcAAPfx _ => 0
  | .subBPfx _ => 0
  | .subCPfx _ => 0
  | .subDPfx _ => 0
  | .subEPfx _ => 0
  | .subAPfx _ => 0
  | .sbcABPfx _ => 0
  | .sbcACPfx _ => 0
  | .sbcADPfx _ => 0
  | .sbcAEPfx _ => 0
  | .sbcAAPfx _ => 0
  | .andBPfx _ => 0
  | .andCPfx _ => 0
  | .andDPfx _ => 0
  | .andEPfx _ => 0
  | .andAPfx _ => 0
  | .xorBPfx _ => 0
  | .xorCPfx _ => 0
  | .xorDPfx _ => 0
  | .xorEPfx _ => 0
  | .xorAPfx _ => 0
  | .orBPfx _ => 0
  | .orCPfx _ => 0
  | .orDPfx _ => 0
  | .orEPfx _ => 0
  | .orAPfx _ => 0
  | .cpBPfx _ => 0
  | .cpCPfx _ => 0
  | .cpDPfx _ => 0
  | .cpEPfx _ => 0
  | .cpAPfx _ => 0
  | .retNZPfx _ => 0
  | .popBCPfx _ => 0
  | .jpNZImm16Pfx _ => 2
  | .jpImm16Pfx _ => 2
  | .callNZImm16Pfx _ => 2
  | .pushBCPfx _ => 0
  | .addAImmPfx _ => 1
  | .rst00Pfx _ => 0
  | .retZPfx _ => 0
  | .retPfx _ => 0
  | .jpZImm16Pfx _ => 2
  | .callZImm16Pfx _ => 2
  | .callImm16Pfx _ => 2
  | .adcAImmPfx _ => 1
  | .rst08Pfx _ => 0
  | .retNCPfx _ => 0
  | .popDEPfx _ => 0
  | .jpNCImm16Pfx _ => 2
  | .outAtImmAPfx _ => 1
  | .callNCImm16Pfx _ => 2
  | .pushDEPfx _ => 0
  | .subImmPfx _ => 1
  | .rst10Pfx _ => 0
  | .retCPfx _ => 0
  | .exxPfx _ => 0
  | .jpCImm16Pfx _ => 2
  | .inAAtImmPfx _ => 1
  | .callCImm16Pfx _ => 2
  | .prefixDDChain _ => 0
  | .sbcAImmPfx _ => 1
  | .rst18Pfx _ => 0
  | .retPOPfx _ => 0
  | .jpPOImm16Pfx _ => 2
  | .callPOImm16Pfx _ => 2
  | .andImmPfx _ => 1
  | .rst20Pfx _ => 0
  | .retPEPfx _ => 0
  | .jpPEImm16Pfx _ => 2
  | .exDEHLPfx _ => 0
  | .callPEImm16Pfx _ => 2
  | .prefixEDPfx _ => 0
  | .xorImmPfx _ => 1
  | .rst28Pfx _ => 0
  | .retPPfx _ => 0
  | .popAFPfx _ => 0
  | .jpPImm16Pfx _ => 2
  | .diPfx _ => 0
  | .callPImm16Pfx _ => 2
  | .pushAFPfx _ => 0
  | .orImmPfx _ => 1
  | .rst30Pfx _ => 0
  | .retMPfx _ => 0
  | .jpMImm16Pfx _ => 2
  | .eiPfx _ => 0
  | .callMImm16Pfx _ => 2
  | .prefixFDChain _ => 0
  | .cpImmPfx _ => 1
  | .rst38Pfx _ => 0
  | .bit0AtIXd _ => 1
  | .bit1AtIXd _ => 1
  | .bit2AtIXd _ => 1
  | .bit3AtIXd _ => 1
  | .bit4AtIXd _ => 1
  | .bit5AtIXd _ => 1
  | .bit6AtIXd _ => 1
  | .bit7AtIXd _ => 1
  | .bit0AtIYd _ => 1
  | .bit1AtIYd _ => 1
  | .bit2AtIYd _ => 1
  | .bit3AtIYd _ => 1
  | .bit4AtIYd _ => 1
  | .bit5AtIYd _ => 1
  | .bit6AtIYd _ => 1
  | .bit7AtIYd _ => 1
  | .nop => 0
  | .ldBCImm16 => 2
  | .ldAtBCA => 0
  | .incBC => 0
  | .incB => 0
  | .decB => 0
  | .ldBImm => 1
  | .rlca => 0
  | .exAFAFAlt => 0
  | .addHLBC => 0
  | .ldAAtBC => 0
  | .decBC => 0
  | .incC => 0
  | .decC => 0
  | .ldCImm => 1
  | .rrca => 0
  | .djnzRel => 1
  | .ldDEImm16 => 2
  | .ldAtDEA => 0
  | .incDE => 0
  | .incD => 0
  | .decD => 0
  | .ldDImm => 1
  | .rla => 0
  | .jrRel => 1
  | .addHLDE => 0
  | .ldAAtDE => 0
  | .decDE => 0
  | .incE => 0
  | .decE => 0
  | .ldEImm => 1
  | .rra => 0
  | .jrNZRel => 1
  | .ldHLImm16 => 2
  | .ldAtAbsHL => 2
  | .incHL => 0
  | .incH => 0
  | .decH => 0
  | .ldHImm => 1
  | .daa => 0
  | .jrZRel => 1
  | .addHLHL => 0
  | .ldHLAtAbs => 2
  | .decHL => 0
  | .incL => 0
  | .decL => 0
  | .ldLImm => 1
  | .cpl => 0
  | .jrNCRel => 1
  | .ldSPImm16 => 2
  | .ldAtAbsA => 2
  | .incSP => 0
  | .incAtHL => 0
  | .decAtHL => 0
  | .ldAtHLImm => 1
  | .scf => 0
  | .jrCRel => 1
  | .addHLSP => 0
  | .ldAAtAbs => 2
  | .decSP => 0
  | .incA => 0
  | .decA => 0
  | .ldAImm => 1
  | .ccf => 0
  | .ldBB => 0
  | .ldBC => 0
  | .ldBD => 0
  | .ldBE => 0
  | .ldBH => 0
  | .ldBL => 0
  | .ldBAtHL => 0
  | .ldBA => 0
  | .ldCB => 0
  | .ldCC => 0
  | .ldCD => 0
  | .ldCE => 0
  | .ldCH => 0
  | .ldCL => 0
  | .ldCAtHL => 0
  | .ldCA => 0
  | .ldDB => 0
  | .ldDC => 0
  | .ldDD => 0
  | .ldDE => 0
  | .ldDH => 0
  | .ldDL => 0
  | .ldDAtHL => 0
  | .ldDA => 0
  | .ldEB => 0
  | .ldEC => 0
  | .ldED => 0
  | .ldEE => 0
  | .ldEH => 0
  | .ldEL => 0
  | .ldEAtHL => 0
  | .ldEA => 0
  | .ldHB => 0
  | .ldHC => 0
  | .ldHD => 0
  | .ldHE => 0
  | .ldHH => 0
  | .ldHL => 0
  | .ldHAtHL => 0
  | .ldHA => 0
  | .ldLB => 0
  | .ldLC => 0
  | .ldLD => 0
  | .ldLE => 0
  | .ldLH => 0
  | .ldLL => 0
  | .ldLAtHL => 0
  | .ldLA => 0
  | .ldAtHLB => 0
  | .ldAtHLC => 0
  | .ldAtHLD => 0
  | .ldAtHLE => 0
  | .ldAtHLH => 0
  | .ldAtHLL => 0
  | .halt => 0
  | .ldAtHLA => 0
  | .ldAB => 0
  | .ldAC => 0
  | .ldAD => 0
  | .ldAE => 0
  | .ldAH => 0
  | .ldAL => 0
  | .ldAAtHL => 0
  | .ldAA => 0
  | .addAB => 0
  | .addAC => 0
  | .addAD => 0
  | .addAE => 0
  | .addAH => 0
  | .addAL => 0
  | .addAAtHL => 0
  | .addAA => 0
  | .adcAB => 0
  | .adcAC => 0
  | .adcAD => 0
  | .adcAE => 0
  | .adcAH => 0
  | .adcAL => 0
  | .adcAAtHL => 0
  | .adcAA => 0
  | .subB => 0
  | .subC => 0
  | .subD => 0
  | .subE => 0
  | .subH => 0
  | .subL => 0
  | .subAtHL => 0
  | .subA => 0
  | .sbcAB => 0
  | .sbcAC => 0
  | .sbcAD => 0
  | .sbcAE => 0
  | .sbcAH => 0
  | .sbcAL => 0
  | .sbcAAtHL => 0
  | .sbcAA => 0
  | .andB => 0
  | .andC => 0
  | .andD => 0
  | .andE => 0
  | .andH => 0
  | .andL => 0
  | .andAtHL => 0
  | .andA => 0
  | .xorB => 0
  | .xorC => 0
  | .xorD => 0
  | .xorE => 0
  | .xorH => 0
  | .xorL => 0
  | .xorAtHL => 0
  | .xorA => 0
  | .orB => 0
  | .orC => 0
  | .orD => 0
  | .orE => 0
  | .orH => 0
  | .orL => 0
  | .orAtHL => 0
  | .orA => 0
  | .cpB => 0
  | .cpC => 0
  | .cpD => 0
  | .cpE => 0
  | .cpH => 0
  | .cpL => 0
  | .cpAtHL => 0
  | .cpA => 0
  | .retNZ => 0
  | .popBC => 0
  | .jpNZImm16 => 2
  | .jpImm16 => 2
  | .callNZImm16 => 2
  | .pushBC => 0
  | .addAImm => 1
  | .rst00 => 0
  | .retZ => 0
  | .ret => 0
  | .jpZImm16 => 2
  | .prefixCB => 0
  | .callZImm16 => 2
  | .callImm16 => 2
  | .adcAImm => 1
  | .rst08 => 0
  | .retNC => 0
  | .popDE => 0
  | .jpNCImm16 => 2
  | .outAtImmA => 1
  | .callNCImm16 => 2
  | .pushDE => 0
  | .subImm => 1
  | .rst10 => 0
  | .retC => 0
  | .exx => 0
  | .jpCImm16 => 2
  | .inAAtImm => 1
  | .callCImm16 => 2
  | .prefixDD => 0
  | .sbcAImm => 1
  | .rst18 => 0
  | .retPO => 0
  | .popHL => 0
  | .jpPOImm16 => 2
  | .exAtSPHL => 0
  | .callPOImm16 => 2
  | .pushHL => 0
  | .andImm => 1
  | .rst20 => 0
  | .retPE => 0
  | .jpAtHL => 0
  | .jpPEImm16 => 2
  | .exDEHL => 0
  | .callPEImm16 => 2
  | .prefixED => 0
  | .xorImm => 1
  | .rst28 => 0
  | .retP => 0
  | .popAF => 0
  | .jpPImm16 => 2
  | .di => 0
  | .callPImm16 => 2
  | .pushAF => 0
  | .orImm => 1
  | .rst30 => 0
  | .retM => 0
  | .ldSPHL => 0
  | .jpMImm16 => 2
  | .ei => 0
  | .callMImm16 => 2
  | .prefixFD => 0
  | .cpImm => 1
  | .rst38 => 0
  | .rlcB => 0
  | .rlcC => 0
  | .rlcD => 0
  | .rlcE => 0
  | .rlcH => 0
  | .rlcL => 0
  | .rlcAtHL => 0
  | .rlcA => 0
  | .rrcB => 0
  | .rrcC => 0
  | .rrcD => 0
  | .rrcE => 0
  | .rrcH => 0
  | .rrcL => 0
  | .rrcAtHL => 0
  | .rrcA => 0
  | .rlB => 0
  | .rlC => 0
  | .rlD => 0
  | .rlE => 0
  | .rlH => 0
  | .rlL => 0
  | .rlAtHL => 0
  | .rlA => 0
  | .rrB => 0
  | .rrC => 0
  | .rrD => 0
  | .rrE => 0
  | .rrH => 0
  | .rrL => 0
  | .rrAtHL => 0
  | .rrA => 0
  | .slaB => 0
  | .slaC => 0
  | .slaD => 0
  | .slaE => 0
  | .slaH => 0
  | .slaL => 0
  | .slaAtHL => 0
  | .slaA => 0
  | .sraB => 0
  | .sraC => 0
  | .sraD => 0
  | .sraE => 0
  | .sraH => 0
  | .sraL => 0
  | .sraAtHL => 0
  | .sraA => 0
  | .sllB => 0
  | .sllC => 0
  | .sllD => 0
  | .sllE => 0
  | .sllH => 0
  | .sllL => 0
  | .sllAtHL => 0
  | .sllA => 0
  | .srlB => 0
  | .srlC => 0
  | .srlD => 0
  | .srlE => 0
  | .srlH => 0
  | .srlL => 0
  | .srlAtHL => 0
  | .srlA => 0
  | .bit0B => 0
  | .bit0C => 0
  | .bit0D => 0
  | .bit0E => 0
  | .bit0H => 0
  | .bit0L => 0
  | .bit0AtHL => 0
  | .bit0A => 0
  | .bit1B => 0
  | .bit1C => 0
  | .bit1D => 0
  | .bit1E => 0
  | .bit1H => 0
  | .bit1L => 0
  | .bit1AtHL => 0
  | .bit1A => 0
  | .bit2B => 0
  | .bit2C => 0
  | .bit2D => 0
  | .bit2E => 0
  | .bit2H => 0
  | .bit2L => 0
  | .bit2AtHL => 0
  | .bit2A => 0
  | .bit3B => 0
  | .bit3C => 0
  | .bit3D => 0
  | .bit3E => 0
  | .bit3H => 0
  | .bit3L => 0
  | .bit3AtHL => 0
  | .bit3A => 0
  | .bit4B => 0
  | .bit4C => 0
  | .bit4D => 0
  | .bit4E => 0
  | .bit4H => 0
  | .bit4L => 0
  | .bit4AtHL => 0
  | .bit4A => 0
  | .bit5B => 0
  | .bit5C => 0
  | .bit5D => 0
  | .bit5E => 0
  | .bit5H => 0
  | .bit5L => 0
  | .bit5AtHL => 0
  | .bit5A => 0
  | .bit6B => 0
  | .bit6C => 0
  | .bit6D => 0
  | .bit6E => 0
  | .bit6H => 0
  | .bit6L => 0
  | .bit6AtHL => 0
  | .bit6A => 0
  | .bit7B => 0
  | .bit7C => 0
  | .bit7D => 0
  | .bit7E => 0
  | .bit7H => 0
  | .bit7L => 0
  | .bit7AtHL => 0
  | .bit7A => 0
  | .res0B => 0
  | .res0C => 0
  | .res0D => 0
  | .res0E => 0
  | .res0H => 0
  | .res0L => 0
  | .res0AtHL => 0
  | .res0A => 0
  | .res1B => 0
  | .res1C => 0
  | .res1D => 0
  | .res1E => 0
  | .res1H => 0
  | .res1L => 0
  | .res1AtHL => 0
  | .res1A => 0
  | .res2B => 0
  | .res2C => 0
  | .res2D => 0
  | .res2E => 0
  | .res2H => 0
  | .res2L => 0
  | .res2AtHL => 0
  | .res2A => 0
  | .res3B => 0
  | .res3C => 0
  | .res3D => 0
  | .res3E => 0
  | .res3H => 0
  | .res3L => 0
  | .res3AtHL => 0
  | .res3A => 0
  | .res4B => 0
  | .res4C => 0
  | .res4D => 0
  | .res4E => 0
  | .res4H => 0
  | .res4L => 0
  | .res4AtHL => 0
  | .res4A => 0
  | .res5B => 0
  | .res5C => 0
  | .res5D => 0
  | .res5E => 0
  | .res5H => 0
  | .res5L => 0
  | .res5AtHL => 0
  | .res5A => 0
  | .res6B => 0
  | .res6C => 0
  | .res6D => 0
  | .res6E => 0
  | .res6H => 0
  | .res6L => 0
  | .res6AtHL => 0
  | .res6A => 0
  | .res7B => 0
  | .res7C => 0
  | .res7D => 0
  | .res7E => 0
  | .res7H => 0
  | .res7L => 0
  | .res7AtHL => 0
  | .res7A => 0
  | .set0B => 0
  | .set0C => 0
  | .set0D => 0
  | .set0E => 0
  | .set0H => 0
  | .set0L => 0
  | .set0AtHL => 0
  | .set0A => 0
  | .set1B => 0
  | .set1C => 0
  | .set1D => 0
  | .set1E => 0
  | .set1H => 0
  | .set1L => 0
  | .set1AtHL => 0
  | .set1A => 0
  | .set2B => 0
  | .set2C => 0
  | .set2D => 0
  | .set2E => 0
  | .set2H => 0
  | .set2L => 0
  | .set2AtHL => 0
  | .set2A => 0
  | .set3B => 0
  | .set3C => 0
  | .set3D => 0
  | .set3E => 0
  | .set3H => 0
  | .set3L => 0
  | .set3AtHL => 0
  | .set3A => 0
  | .set4B => 0
  | .set4C => 0
  | .set4D => 0
  | .set4E => 0
  | .set4H => 0
  | .set4L => 0
  | .set4AtHL => 0
  | .set4A => 0
  | .set5B => 0
  | .set5C => 0
  | .set5D => 0
  | .set5E => 0
  | .set5H => 0
  | .set5L => 0
  | .set5AtHL => 0
  | .set5A => 0
  | .set6B => 0
  | .set6C => 0
  | .set6D => 0
  | .set6E => 0
  | .set6H => 0
  | .set6L => 0
  | .set6AtHL => 0
  | .set6A => 0
  | .set7B => 0
  | .set7C => 0
  | .set7D => 0
  | .set7E => 0
  | .set7H => 0
  | .set7L => 0
  | .set7AtHL => 0
  | .set7A => 0
  | .inBAtC => 0
  | .outAtCB => 0
  | .sbcHLBC => 0
  | .ldAtAbsBC => 2
  | .ldIA => 0
  | .inCAtC => 0
  | .outAtCC => 0
  | .adcHLBC => 0
  | .ldBCAtAbs => 2
  | .reti => 0
  | .ldRA => 0
  | .inDAtC => 0
  | .outAtCD => 0
  | .sbcHLDE => 0
  | .ldAtAbsDE => 2
  | .ldAI => 0
  | .inEAtC => 0
  | .outAtCE => 0
  | .adcHLDE => 0
  | .ldDEAtAbs => 2
  | .ldAR => 0
  | .inHAtC => 0
  | .outAtCH => 0
  | .sbcHLHL => 0
  | .ldAtAbsHLEd => 2
  | .rrd => 0
  | .inLAtC => 0
  | .outAtCL => 0
  | .adcHLHL => 0
  | .ldHLAtAbsEd => 2
  | .rld => 0
  | .inAtC => 0
  | .outAtC0 => 0
  | .sbcHLSP => 0
  | .ldAtAbsSP => 2
  | .inAAtC => 0
  | .outAtCA => 0
  | .adcHLSP => 0
  | .ldSPAtAbs => 2
  | .ldi => 0
  | .cpi => 0
  | .ini => 0
  | .outi => 0
  | .ldd => 0
  | .cpd => 0
  | .ind => 0
  | .outd => 0
  | .ldir => 0
  | .cpir => 0
  | .inir => 0
  | .otir => 0
  | .lddr => 0
  | .cpdr => 0
  | .indr => 0
  | .otdr => 0
  | .addIXBC => 0
  | .addIXDE => 0
  | .ldIXImm16 => 2
  | .ldAtAbsIX => 2
  | .incIX => 0
  | .incIXH => 0
  | .decIXH => 0
  | .ldIXHImm => 1
  | .addIXIX => 0
  | .ldIXAtAbs => 2
  | .decIX => 0
  | .incIXL => 0
  | .decIXL => 0
  | .ldIXLImm => 1
  | .incAtIXd => 1
  | .decAtIXd => 1
  | .ldAtIXdImm => 2
  | .addIXSP => 0
  | .ldBIXH => 0
  | .ldBIXL => 0
  | .ldBAtIXd => 1
  | .ldCIXH => 0
  | .ldCIXL => 0
  | .ldCAtIXd => 1
  | .ldDIXH => 0
  | .ldDIXL => 0
  | .ldDAtIXd => 1
  | .ldEIXH => 0
  | .ldEIXL => 0
  | .ldEAtIXd => 1
  | .ldIXHB => 0
  | .ldIXHC => 0
  | .ldIXHD => 0
  | .ldIXHE => 0
  | .ldIXHIXH => 0
  | .ldIXHIXL => 0
  | .ldHAtIXd => 1
  | .ldIXHA => 0
  | .ldIXLB => 0
  | .ldIXLC => 0
  | .ldIXLD => 0
  | .ldIXLE => 0
  | .ldIXLIXH => 0
  | .ldIXLIXL => 0
  | .ldLAtIXd => 1
  | .ldIXLA => 0
  | .ldAtIXdB => 1
  | .ldAtIXdC => 1
  | .ldAtIXdD => 1
  | .ldAtIXdE => 1
  | .ldAtIXdH => 1
  | .ldAtIXdL => 1
  | .ldAtIXdA => 1
  | .ldAIXH => 0
  | .ldAIXL => 0
  | .ldAAtIXd => 1
  | .addAIXH => 0
  | .addAIXL => 0
  | .addAAtIXd => 1
  | .adcAIXH => 0
  | .adcAIXL => 0
  | .adcAAtIXd => 1
  | .subIXH => 0
  | .subIXL => 0
  | .subAtIXd => 1
  | .sbcAIXH => 0
  | .sbcAIXL => 0
  | .sbcAAtIXd => 1
  | .andIXH => 0
  | .andIXL => 0
  | .andAtIXd => 1
  | .xorIXH => 0
  | .xorIXL => 0
  | .xorAtIXd => 1
  | .orIXH => 0
  | .orIXL => 0
  | .orAtIXd => 1
  | .cpIXH => 0
  | .cpIXL => 0
  | .cpAtIXd => 1
  | .popIX => 0
  | .exAtSPIX => 0
  | .pushIX => 0
  | .jpAtIX => 0
  | .ldSPIX => 0
  | .addIYBC => 0
  | .addIYDE => 0
  | .ldIYImm16 => 2
  | .ldAtAbsIY => 2
  | .incIY => 0
  | .incIYH => 0
  | .decIYH => 0
  | .ldIYHImm => 1
  | .addIYIY => 0
  | .ldIYAtAbs => 2
  | .decIY => 0
  | .incIYL => 0
  | .decIYL => 0
  | .ldIYLImm => 1
  | .incAtIYd => 1
  | .decAtIYd => 1
  | .ldAtIYdImm => 2
  | .addIYSP => 0
  | .ldBIYH => 0
  | .ldBIYL => 0
  | .ldBAtIYd => 1
  | .ldCIYH => 0
  | .ldCIYL => 0
  | .ldCAtIYd => 1
  | .ldDIYH => 0
  | .ldDIYL => 0
  | .ldDAtIYd => 1
  | .ldEIYH => 0
  | .ldEIYL => 0
  | .ldEAtIYd => 1
  | .ldIYHB => 0
  | .ldIYHC => 0
  | .ldIYHD => 0
  | .ldIYHE => 0
  | .ldIYHIYH => 0
  | .ldIYHIYL => 0
  | .ldHAtIYd => 1
  | .ldIYHA => 0
  | .ldIYLB => 0
  | .ldIYLC => 0
  | .ldIYLD => 0
  | .ldIYLE => 0
  | .ldIYLIYH => 0
  | .ldIYLIYL => 0
  | .ldLAtIYd => 1
  | .ldIYLA => 0
  | .ldAtIYdB => 1
  | .ldAtIYdC => 1
  | .ldAtIYdD => 1
  | .ldAtIYdE => 1
  | .ldAtIYdH => 1
  | .ldAtIYdL => 1
  | .ldAtIYdA => 1
  | .ldAIYH => 0
  | .ldAIYL => 0
  | .ldAAtIYd => 1
  | .addAIYH => 0
  | .addAIYL => 0
  | .addAAtIYd => 1
  | .adcAIYH => 0
  | .adcAIYL => 0
  | .adcAAtIYd => 1
  | .subIYH => 0
  | .subIYL => 0
  | .subAtIYd => 1
  | .sbcAIYH => 0
  | .sbcAIYL => 0
  | .sbcAAtIYd => 1
  | .andIYH => 0
  | .andIYL => 0
  | .andAtIYd => 1
  | .xorIYH => 0
  | .xorIYL => 0
  | .xorAtIYd => 1
  | .orIYH => 0
  | .orIYL => 0
  | .orAtIYd => 1
  | .cpIYH => 0
  | .cpIYL => 0
  | .cpAtIYd => 1
  | .popIY => 0
  | .exAtSPIY => 0
  | .pushIY => 0
  | .jpAtIY => 0
  | .ldSPIY => 0
  | .ldBRlcAtIXd => 1
  | .ldCRlcAtIXd => 1
  | .ldDRlcAtIXd => 1
  | .ldERlcAtIXd => 1
  | .ldHRlcAtIXd => 1
  | .ldLRlcAtIXd => 1
  | .rlcAtIXd => 1
  | .ldARlcAtIXd => 1
  | .ldBRrcAtIXd => 1
  | .ldCRrcAtIXd => 1
  | .ldDRrcAtIXd => 1
  | .ldERrcAtIXd => 1
  | .ldHRrcAtIXd => 1
  | .ldLRrcAtIXd => 1
  | .rrcAtIXd => 1
  | .ldARrcAtIXd => 1
  | .ldBRlAtIXd => 1
  | .ldCRlAtIXd => 1
  | .ldDRlAtIXd => 1
  | .ldERlAtIXd => 1
  | .ldHRlAtIXd => 1
  | .ldLRlAtIXd => 1
  | .rlAtIXd => 1
  | .ldARlAtIXd => 1
  | .ldBRrAtIXd => 1
  | .ldCRrAtIXd => 1
  | .ldDRrAtIXd => 1
  | .ldERrAtIXd => 1
  | .ldHRrAtIXd => 1
  | .ldLRrAtIXd => 1
  | .rrAtIXd => 1
  | .ldARrAtIXd => 1
  | .ldBSlaAtIXd => 1
  | .ldCSlaAtIXd => 1
  | .ldDSlaAtIXd => 1
  | .ldESlaAtIXd => 1
  | .ldHSlaAtIXd => 1
  | .ldLSlaAtIXd => 1
  | .slaAtIXd => 1
  | .ldASlaAtIXd => 1
  | .ldBSraAtIXd => 1
  | .ldCSraAtIXd => 1
  | .ldDSraAtIXd => 1
  | .ldESraAtIXd => 1
  | .ldHSraAtIXd => 1
  | .ldLSraAtIXd => 1
  | .sraAtIXd => 1
  | .ldASraAtIXd => 1
  | .ldBSllAtIXd => 1
  | .ldCSllAtIXd => 1
  | .ldDSllAtIXd => 1
  | .ldESllAtIXd => 1
  | .ldHSllAtIXd => 1
  | .ldLSllAtIXd => 1
  | .sllAtIXd => 1
  | .ldASllAtIXd => 1
  | .ldBSrlAtIXd => 1
  | .ldCSrlAtIXd => 1
  | .ldDSrlAtIXd => 1
  | .ldESrlAtIXd => 1
  | .ldHSrlAtIXd => 1
  | .ldLSrlAtIXd => 1
  | .srlAtIXd => 1
  | .ldASrlAtIXd => 1
  | .ldBRes0AtIXd => 1
  | .ldCRes0AtIXd => 1
  | .ldDRes0AtIXd => 1
  | .ldERes0AtIXd => 1
  | .ldHRes0AtIXd => 1
  | .ldLRes0AtIXd => 1
  | .res0AtIXd => 1
  | .ldARes0AtIXd => 1
  | .ldBRes1AtIXd => 1
  | .ldCRes1AtIXd => 1
  | .ldDRes1AtIXd => 1
  | .ldERes1AtIXd => 1
  | .ldHRes1AtIXd => 1
  | .ldLRes1AtIXd => 1
  | .res1AtIXd => 1
  | .ldARes1AtIXd => 1
  | .ldBRes2AtIXd => 1
  | .ldCRes2AtIXd => 1
  | .ldDRes2AtIXd => 1
  | .ldERes2AtIXd => 1
  | .ldHRes2AtIXd => 1
  | .ldLRes2AtIXd => 1
  | .res2AtIXd => 1
  | .ldARes2AtIXd => 1
  | .ldBRes3AtIXd => 1
  | .ldCRes3AtIXd => 1
  | .ldDRes3AtIXd => 1
  | .ldERes3AtIXd => 1
  | .ldHRes3AtIXd => 1
  | .ldLRes3AtIXd => 1
  | .res3AtIXd => 1
  | .ldARes3AtIXd => 1
  | .ldBRes4AtIXd => 1
  | .ldCRes4AtIXd => 1
  | .ldDRes4AtIXd => 1
  | .ldERes4AtIXd => 1
  | .ldHRes4AtIXd => 1
  | .ldLRes4AtIXd => 1
  | .res4AtIXd => 1
  | .ldARes4AtIXd => 1
  | .ldBRes5AtIXd => 1
  | .ldCRes5AtIXd => 1
  | .ldDRes5AtIXd => 1
  | .ldERes5AtIXd => 1
  | .ldHRes5AtIXd => 1
  | .ldLRes5AtIXd => 1
  | .res5AtIXd => 1
  | .ldARes5AtIXd => 1
  | .ldBRes6AtIXd => 1
  | .ldCRes6AtIXd => 1
  | .ldDRes6AtIXd => 1
  | .ldERes6AtIXd => 1
  | .ldHRes6AtIXd => 1
  | .ldLRes6AtIXd => 1
  | .res6AtIXd => 1
  | .ldARes6AtIXd => 1
  | .ldBRes7AtIXd => 1
  | .ldCRes7AtIXd => 1
  | .ldDRes7AtIXd => 1
  | .ldERes7AtIXd => 1
  | .ldHRes7AtIXd => 1
  | .ldLRes7AtIXd => 1
  | .res7AtIXd => 1
  | .ldARes7AtIXd => 1
  | .ldBSet0AtIXd => 1
  | .ldCSet0AtIXd => 1
  | .ldDSet0AtIXd => 1
  | .ldESet0AtIXd => 1
  | .ldHSet0AtIXd => 1
  | .ldLSet0AtIXd => 1
  | .set0AtIXd => 1
  | .ldASet0AtIXd => 1
  | .ldBSet1AtIXd => 1
  | .ldCSet1AtIXd => 1
  | .ldDSet1AtIXd => 1
  | .ldESet1AtIXd => 1
  | .ldHSet1AtIXd => 1
  | .ldLSet1AtIXd => 1
  | .set1AtIXd => 1
  | .ldASet1AtIXd => 1
  | .ldBSet2AtIXd => 1
  | .ldCSet2AtIXd => 1
  | .ldDSet2AtIXd => 1
  | .ldESet2AtIXd => 1
  | .ldHSet2AtIXd => 1
  | .ldLSet2AtIXd => 1
  | .set2AtIXd => 1
  | .ldASet2AtIXd => 1
  | .ldBSet3AtIXd => 1
  | .ldCSet3AtIXd => 1
  | .ldDSet3AtIXd => 1
  | .ldESet3AtIXd => 1
  | .ldHSet3AtIXd => 1
  | .ldLSet3AtIXd => 1
  | .set3AtIXd => 1
  | .ldASet3AtIXd => 1
  | .ldBSet4AtIXd => 1
  | .ldCSet4AtIXd => 1
  | .ldDSet4AtIXd => 1
  | .ldESet4AtIXd => 1
  | .ldHSet4AtIXd => 1
  | .ldLSet4AtIXd => 1
  | .set4AtIXd => 1
  | .ldASet4AtIXd => 1
  | .ldBSet5AtIXd => 1
  | .ldCSet5AtIXd => 1
  | .ldDSet5AtIXd => 1
  | .ldESet5AtIXd => 1
  | .ldHSet5AtIXd => 1
  | .ldLSet5AtIXd => 1
  | .set5AtIXd => 1
  | .ldASet5AtIXd => 1
  | .ldBSet6AtIXd => 1
  | .ldCSet6AtIXd => 1
  | .ldDSet6AtIXd => 1
  | .ldESet6AtIXd => 1
  | .ldHSet6AtIXd => 1
  | .ldLSet6AtIXd => 1
  | .set6AtIXd => 1
  | .ldASet6AtIXd => 1
  | .ldBSet7AtIXd => 1
  | .ldCSet7AtIXd => 1
  | .ldDSet7AtIXd => 1
  | .ldESet7AtIXd => 1
  | .ldHSet7AtIXd => 1
  | .ldLSet7AtIXd => 1
  | .set7AtIXd => 1
  | .ldASet7AtIXd => 1
  | .ldBRlcAtIYd => 1
  | .ldCRlcAtIYd => 1
  | .ldDRlcAtIYd => 1
  | .ldERlcAtIYd => 1
  | .ldHRlcAtIYd => 1
  | .ldLRlcAtIYd => 1
  | .rlcAtIYd => 1
  | .ldARlcAtIYd => 1
  | .ldBRrcAtIYd => 1
  | .ldCRrcAtIYd => 1
  | .ldDRrcAtIYd => 1
  | .ldERrcAtIYd => 1
  | .ldHRrcAtIYd => 1
  | .ldLRrcAtIYd => 1
  | .rrcAtIYd => 1
  | .ldARrcAtIYd => 1
  | .ldBRlAtIYd => 1
  | .ldCRlAtIYd => 1
  | .ldDRlAtIYd => 1
  | .ldERlAtIYd => 1
  | .ldHRlAtIYd => 1
  | .ldLRlAtIYd => 1
  | .rlAtIYd => 1
  | .ldARlAtIYd => 1
  | .ldBRrAtIYd => 1
  | .ldCRrAtIYd => 1
  | .ldDRrAtIYd => 1
  | .ldERrAtIYd => 1
  | .ldHRrAtIYd => 1
  | .ldLRrAtIYd => 1
  | .rrAtIYd => 1
  | .ldARrAtIYd => 1
  | .ldBSlaAtIYd => 1
  | .ldCSlaAtIYd => 1
  | .ldDSlaAtIYd => 1
  | .ldESlaAtIYd => 1
  | .ldHSlaAtIYd => 1
  | .ldLSlaAtIYd => 1
  | .slaAtIYd => 1
  | .ldASlaAtIYd => 1
  | .ldBSraAtIYd => 1
  | .ldCSraAtIYd => 1
  | .ldDSraAtIYd => 1
  | .ldESraAtIYd => 1
  | .ldHSraAtIYd => 1
  | .ldLSraAtIYd => 1
  | .sraAtIYd => 1
  | .ldASraAtIYd => 1
  | .ldBSllAtIYd => 1
  | .ldCSllAtIYd => 1
  | .ldDSllAtIYd => 1
  | .ldESllAtIYd => 1
  | .ldHSllAtIYd => 1
  | .ldLSllAtIYd => 1
  | .sllAtIYd => 1
  | .ldASllAtIYd => 1
  | .ldBSrlAtIYd => 1
  | .ldCSrlAtIYd => 1
  | .ldDSrlAtIYd => 1
  | .ldESrlAtIYd => 1
  | .ldHSrlAtIYd => 1
  | .ldLSrlAtIYd => 1
  | .srlAtIYd => 1
  | .ldASrlAtIYd => 1
  | .ldBRes0AtIYd => 1
  | .ldCRes0AtIYd => 1
  | .ldDRes0AtIYd => 1
  | .ldERes0AtIYd => 1
  | .ldHRes0AtIYd => 1
  | .ldLRes0AtIYd => 1
  | .res0AtIYd => 1
  | .ldARes0AtIYd => 1
  | .ldBRes1AtIYd => 1
  | .ldCRes1AtIYd => 1
  | .ldDRes1AtIYd => 1
  | .ldERes1AtIYd => 1
  | .ldHRes1AtIYd => 1
  | .ldLRes1AtIYd => 1
  | .res1AtIYd => 1
  | .ldARes1AtIYd => 1
  | .ldBRes2AtIYd => 1
  | .ldCRes2AtIYd => 1
  | .ldDRes2AtIYd => 1
  | .ldERes2AtIYd => 1
  | .ldHRes2AtIYd => 1
  | .ldLRes2AtIYd => 1
  | .res2AtIYd => 1
  | .ldARes2AtIYd => 1
  | .ldBRes3AtIYd => 1
  | .ldCRes3AtIYd => 1
  | .ldDRes3AtIYd => 1
  | .ldERes3AtIYd => 1
  | .ldHRes3AtIYd => 1
  | .ldLRes3AtIYd => 1
  | .res3AtIYd => 1
  | .ldARes3AtIYd => 1
  | .ldBRes4AtIYd => 1
  | .ldCRes4AtIYd => 1
  | .ldDRes4AtIYd => 1
  | .ldERes4AtIYd => 1
  | .ldHRes4AtIYd => 1
  | .ldLRes4AtIYd => 1
  | .res4AtIYd => 1
  | .ldARes4AtIYd => 1
  | .ldBRes5AtIYd => 1
  | .ldCRes5AtIYd => 1
  | .ldDRes5AtIYd => 1
  | .ldERes5AtIYd => 1
  | .ldHRes5AtIYd => 1
  | .ldLRes5AtIYd => 1
  | .res5AtIYd => 1
  | .ldARes5AtIYd => 1
  | .ldBRes6AtIYd => 1
  | .ldCRes6AtIYd => 1
  | .ldDRes6AtIYd => 1
  | .ldERes6AtIYd => 1
  | .ldHRes6AtIYd => 1
  | .ldLRes6AtIYd => 1
  | .res6AtIYd => 1
  | .ldARes6AtIYd => 1
  | .ldBRes7AtIYd => 1
  | .ldCRes7AtIYd => 1
  | .ldDRes7AtIYd => 1
  | .ldERes7AtIYd => 1
  | .ldHRes7AtIYd => 1
  | .ldLRes7AtIYd => 1
  | .res7AtIYd => 1
  | .ldARes7AtIYd => 1
  | .ldBSet0AtIYd => 1
  | .ldCSet0AtIYd => 1
  | .ldDSet0AtIYd => 1
  | .ldESet0AtIYd => 1
  | .ldHSet0AtIYd => 1
  | .ldLSet0AtIYd => 1
  | .set0AtIYd => 1
  | .ldASet0AtIYd => 1
  | .ldBSet1AtIYd => 1
  | .ldCSet1AtIYd => 1
  | .ldDSet1AtIYd => 1
  | .ldESet1AtIYd => 1
  | .ldHSet1AtIYd => 1
  | .ldLSet1AtIYd => 1
  | .set1AtIYd => 1
  | .ldASet1AtIYd => 1
  | .ldBSet2AtIYd => 1
  | .ldCSet2AtIYd => 1
  | .ldDSet2AtIYd => 1
  | .ldESet2AtIYd => 1
  | .ldHSet2AtIYd => 1
  | .ldLSet2AtIYd => 1
  | .set2AtIYd => 1
  | .ldASet2AtIYd => 1
  | .ldBSet3AtIYd => 1
  | .ldCSet3AtIYd => 1
  | .ldDSet3AtIYd => 1
  | .ldESet3AtIYd => 1
  | .ldHSet3AtIYd => 1
  | .ldLSet3AtIYd => 1
  | .set3AtIYd => 1
  | .ldASet3AtIYd => 1
  | .ldBSet4AtIYd => 1
  | .ldCSet4AtIYd => 1
  | .ldDSet4AtIYd => 1
  | .ldESet4AtIYd => 1
  | .ldHSet4AtIYd => 1
  | .ldLSet4AtIYd => 1
  | .set4AtIYd => 1
  | .ldASet4AtIYd => 1
  | .ldBSet5AtIYd => 1
  | .ldCSet5AtIYd => 1
  | .ldDSet5AtIYd => 1
  | .ldESet5AtIYd => 1
  | .ldHSet5AtIYd => 1
  | .ldLSet5AtIYd => 1
  | .set5AtIYd => 1
  | .ldASet5AtIYd => 1
  | .ldBSet6AtIYd => 1
  | .ldCSet6AtIYd => 1
  | .ldDSet6AtIYd => 1
  | .ldESet6AtIYd => 1
  | .ldHSet6AtIYd => 1
  | .ldLSet6AtIYd => 1
  | .set6AtIYd => 1
  | .ldASet6AtIYd => 1
  | .ldBSet7AtIYd => 1
  | .ldCSet7AtIYd => 1
  | .ldDSet7AtIYd => 1
  | .ldESet7AtIYd => 1
  | .ldHSet7AtIYd => 1
  | .ldLSet7AtIYd => 1
  | .set7AtIYd => 1
  | .ldASet7AtIYd => 1

/-! ## The decoder -/

/-- The instruction at the front of the program, told from its first, second and fourth byte (R103; the fourth
is the opcode of `pp CB d op`, R115). Every byte sequence gives one (R116). A prefix byte that another prefix
takes over from, or that stands before `ED`, is a row of its own (R118, R454, R455). -/
def decodeWindow (b0 b1 b3 : Byte) : Instr :=
  if b0 = 0xCB then cbTable b1
  else if b0 = 0xED then edTable b1
  else if b0 = 0xDD then if b1 = 0xCB then ddcbTable b3 else ddTable b1
  else if b0 = 0xFD then if b1 = 0xCB then fdcbTable b3 else fdTable b1
  else baseTable b0

/-- How many bytes that instruction takes from the program, told from its first two bytes (R110, R117). -/
def codeSize (b0 b1 : Byte) : Nat :=
  if b0 = 0xCB then 2
  else if b0 = 0xED then 2 + (edTable b1).operandBytes
  else if b0 = 0xDD ∨ b0 = 0xFD then
    if b1 = 0xCB then 4
    else if b1 = 0xDD ∨ b1 = 0xED ∨ b1 = 0xFD then 1
    else 2 + (if b0 = 0xDD then ddTable b1 else fdTable b1).operandBytes
  else 1 + (baseTable b0).operandBytes

/-- Why the decoder reads no instruction. -/
inductive DecodeError where
  /-- There is no byte. -/
  | noBytes
  /-- The bytes end inside the instruction. -/
  | truncated
  deriving DecidableEq, Repr

/-- The instruction at the front of a list of bytes. A lone prefix byte is the prefix row of the base
table (R111). -/
def decode (bs : List Byte) : Except DecodeError Instr :=
  match bs with
  | [] => .error .noBytes
  | [b] => if (baseTable b).operandBytes = 0 then .ok (baseTable b) else .error .truncated
  | b0 :: b1 :: rest =>
    if codeSize b0 b1 ≤ rest.length + 2 then .ok (decodeWindow b0 b1 (rest.getD 1 0)) else .error .truncated

/-- Byte `k` of an instruction whose first byte is the low byte of `w`. -/
def tableByte (w k : Nat) : Byte := BitVec.ofNat 8 (w / 256 ^ k)

/-- The instruction of a table word: its own bytes, or, where the table's bytes leave operand bytes out, those
bytes with zeros after them. -/
def decodeTableWord (nbits w : Nat) : Option Instr :=
  let bs := (List.range (nbits / 8)).map (tableByte (w % 2 ^ nbits))
  match decode bs with
  | .ok i => some i
  | .error _ =>
    match decode (bs ++ List.replicate (4 - bs.length) 0) with
    | .ok i => some i
    | .error _ => none

/-- Whether the row is a prefix, after which the same step goes on with the next byte (R103, R454, R455). -/
def Instr.isPrefix (i : Instr) : Bool :=
  match i with
  | .nopEd _ => false
  | .neg _ => false
  | .retn _ => false
  | .im0 _ => false
  | .im1 _ => false
  | .im2 _ => false
  | .nopPfx _ => false
  | .ldBCImm16Pfx _ => false
  | .ldAtBCAPfx _ => false
  | .incBCPfx _ => false
  | .incBPfx _ => false
  | .decBPfx _ => false
  | .ldBImmPfx _ => false
  | .rlcaPfx _ => false
  | .exAFAFAltPfx _ => false
  | .ldAAtBCPfx _ => false
  | .decBCPfx _ => false
  | .incCPfx _ => false
  | .decCPfx _ => false
  | .ldCImmPfx _ => false
  | .rrcaPfx _ => false
  | .djnzRelPfx _ => false
  | .ldDEImm16Pfx _ => false
  | .ldAtDEAPfx _ => false
  | .incDEPfx _ => false
  | .incDPfx _ => false
  | .decDPfx _ => false
  | .ldDImmPfx _ => false
  | .rlaPfx _ => false
  | .jrRelPfx _ => false
  | .ldAAtDEPfx _ => false
  | .decDEPfx _ => false
  | .incEPfx _ => false
  | .decEPfx _ => false
  | .ldEImmPfx _ => false
  | .rraPfx _ => false
  | .jrNZRelPfx _ => false
  | .daaPfx _ => false
  | .jrZRelPfx _ => false
  | .cplPfx _ => false
  | .jrNCRelPfx _ => false
  | .ldSPImm16Pfx _ => false
  | .ldAtAbsAPfx _ => false
  | .incSPPfx _ => false
  | .scfPfx _ => false
  | .jrCRelPfx _ => false
  | .ldAAtAbsPfx _ => false
  | .decSPPfx _ => false
  | .incAPfx _ => false
  | .decAPfx _ => false
  | .ldAImmPfx _ => false
  | .ccfPfx _ => false
  | .ldBBPfx _ => false
  | .ldBCPfx _ => false
  | .ldBDPfx _ => false
  | .ldBEPfx _ => false
  | .ldBAPfx _ => false
  | .ldCBPfx _ => false
  | .ldCCPfx _ => false
  | .ldCDPfx _ => false
  | .ldCEPfx _ => false
  | .ldCAPfx _ => false
  | .ldDBPfx _ => false
  | .ldDCPfx _ => false
  | .ldDDPfx _ => false
  | .ldDEPfx _ => false
  | .ldDAPfx _ => false
  | .ldEBPfx _ => false
  | .ldECPfx _ => false
  | .ldEDPfx _ => false
  | .ldEEPfx _ => false
  | .ldEAPfx _ => false
  | .haltPfx _ => false
  | .ldABPfx _ => false
  | .ldACPfx _ => false
  | .ldADPfx _ => false
  | .ldAEPfx _ => false
  | .ldAAPfx _ => false
  | .addABPfx _ => false
  | .addACPfx _ => false
  | .addADPfx _ => false
  | .addAEPfx _ => false
  | .addAAPfx _ => false
  | .adcABPfx _ => false
  | .adcACPfx _ => false
  | .adcADPfx _ => false
  | .adcAEPfx _ => false
  | .adcAAPfx _ => false
  | .subBPfx _ => false
  | .subCPfx _ => false
  | .subDPfx _ => false
  | .subEPfx _ => false
  | .subAPfx _ => false
  | .sbcABPfx _ => false
  | .sbcACPfx _ => false
  | .sbcADPfx _ => false
  | .sbcAEPfx _ => false
  | .sbcAAPfx _ => false
  | .andBPfx _ => false
  | .andCPfx _ => false
  | .andDPfx _ => false
  | .andEPfx _ => false
  | .andAPfx _ => false
  | .xorBPfx _ => false
  | .xorCPfx _ => false
  | .xorDPfx _ => false
  | .xorEPfx _ => false
  | .xorAPfx _ => false
  | .orBPfx _ => false
  | .orCPfx _ => false
  | .orDPfx _ => false
  | .orEPfx _ => false
  | .orAPfx _ => false
  | .cpBPfx _ => false
  | .cpCPfx _ => false
  | .cpDPfx _ => false
  | .cpEPfx _ => false
  | .cpAPfx _ => false
  | .retNZPfx _ => false
  | .popBCPfx _ => false
  | .jpNZImm16Pfx _ => false
  | .jpImm16Pfx _ => false
  | .callNZImm16Pfx _ => false
  | .pushBCPfx _ => false
  | .addAImmPfx _ => false
  | .rst00Pfx _ => false
  | .retZPfx _ => false
  | .retPfx _ => false
  | .jpZImm16Pfx _ => false
  | .callZImm16Pfx _ => false
  | .callImm16Pfx _ => false
  | .adcAImmPfx _ => false
  | .rst08Pfx _ => false
  | .retNCPfx _ => false
  | .popDEPfx _ => false
  | .jpNCImm16Pfx _ => false
  | .outAtImmAPfx _ => false
  | .callNCImm16Pfx _ => false
  | .pushDEPfx _ => false
  | .subImmPfx _ => false
  | .rst10Pfx _ => false
  | .retCPfx _ => false
  | .exxPfx _ => false
  | .jpCImm16Pfx _ => false
  | .inAAtImmPfx _ => false
  | .callCImm16Pfx _ => false
  | .prefixDDChain _ => true
  | .sbcAImmPfx _ => false
  | .rst18Pfx _ => false
  | .retPOPfx _ => false
  | .jpPOImm16Pfx _ => false
  | .callPOImm16Pfx _ => false
  | .andImmPfx _ => false
  | .rst20Pfx _ => false
  | .retPEPfx _ => false
  | .jpPEImm16Pfx _ => false
  | .exDEHLPfx _ => false
  | .callPEImm16Pfx _ => false
  | .prefixEDPfx _ => true
  | .xorImmPfx _ => false
  | .rst28Pfx _ => false
  | .retPPfx _ => false
  | .popAFPfx _ => false
  | .jpPImm16Pfx _ => false
  | .diPfx _ => false
  | .callPImm16Pfx _ => false
  | .pushAFPfx _ => false
  | .orImmPfx _ => false
  | .rst30Pfx _ => false
  | .retMPfx _ => false
  | .jpMImm16Pfx _ => false
  | .eiPfx _ => false
  | .callMImm16Pfx _ => false
  | .prefixFDChain _ => true
  | .cpImmPfx _ => false
  | .rst38Pfx _ => false
  | .bit0AtIXd _ => false
  | .bit1AtIXd _ => false
  | .bit2AtIXd _ => false
  | .bit3AtIXd _ => false
  | .bit4AtIXd _ => false
  | .bit5AtIXd _ => false
  | .bit6AtIXd _ => false
  | .bit7AtIXd _ => false
  | .bit0AtIYd _ => false
  | .bit1AtIYd _ => false
  | .bit2AtIYd _ => false
  | .bit3AtIYd _ => false
  | .bit4AtIYd _ => false
  | .bit5AtIYd _ => false
  | .bit6AtIYd _ => false
  | .bit7AtIYd _ => false
  | .nop => false
  | .ldBCImm16 => false
  | .ldAtBCA => false
  | .incBC => false
  | .incB => false
  | .decB => false
  | .ldBImm => false
  | .rlca => false
  | .exAFAFAlt => false
  | .addHLBC => false
  | .ldAAtBC => false
  | .decBC => false
  | .incC => false
  | .decC => false
  | .ldCImm => false
  | .rrca => false
  | .djnzRel => false
  | .ldDEImm16 => false
  | .ldAtDEA => false
  | .incDE => false
  | .incD => false
  | .decD => false
  | .ldDImm => false
  | .rla => false
  | .jrRel => false
  | .addHLDE => false
  | .ldAAtDE => false
  | .decDE => false
  | .incE => false
  | .decE => false
  | .ldEImm => false
  | .rra => false
  | .jrNZRel => false
  | .ldHLImm16 => false
  | .ldAtAbsHL => false
  | .incHL => false
  | .incH => false
  | .decH => false
  | .ldHImm => false
  | .daa => false
  | .jrZRel => false
  | .addHLHL => false
  | .ldHLAtAbs => false
  | .decHL => false
  | .incL => false
  | .decL => false
  | .ldLImm => false
  | .cpl => false
  | .jrNCRel => false
  | .ldSPImm16 => false
  | .ldAtAbsA => false
  | .incSP => false
  | .incAtHL => false
  | .decAtHL => false
  | .ldAtHLImm => false
  | .scf => false
  | .jrCRel => false
  | .addHLSP => false
  | .ldAAtAbs => false
  | .decSP => false
  | .incA => false
  | .decA => false
  | .ldAImm => false
  | .ccf => false
  | .ldBB => false
  | .ldBC => false
  | .ldBD => false
  | .ldBE => false
  | .ldBH => false
  | .ldBL => false
  | .ldBAtHL => false
  | .ldBA => false
  | .ldCB => false
  | .ldCC => false
  | .ldCD => false
  | .ldCE => false
  | .ldCH => false
  | .ldCL => false
  | .ldCAtHL => false
  | .ldCA => false
  | .ldDB => false
  | .ldDC => false
  | .ldDD => false
  | .ldDE => false
  | .ldDH => false
  | .ldDL => false
  | .ldDAtHL => false
  | .ldDA => false
  | .ldEB => false
  | .ldEC => false
  | .ldED => false
  | .ldEE => false
  | .ldEH => false
  | .ldEL => false
  | .ldEAtHL => false
  | .ldEA => false
  | .ldHB => false
  | .ldHC => false
  | .ldHD => false
  | .ldHE => false
  | .ldHH => false
  | .ldHL => false
  | .ldHAtHL => false
  | .ldHA => false
  | .ldLB => false
  | .ldLC => false
  | .ldLD => false
  | .ldLE => false
  | .ldLH => false
  | .ldLL => false
  | .ldLAtHL => false
  | .ldLA => false
  | .ldAtHLB => false
  | .ldAtHLC => false
  | .ldAtHLD => false
  | .ldAtHLE => false
  | .ldAtHLH => false
  | .ldAtHLL => false
  | .halt => false
  | .ldAtHLA => false
  | .ldAB => false
  | .ldAC => false
  | .ldAD => false
  | .ldAE => false
  | .ldAH => false
  | .ldAL => false
  | .ldAAtHL => false
  | .ldAA => false
  | .addAB => false
  | .addAC => false
  | .addAD => false
  | .addAE => false
  | .addAH => false
  | .addAL => false
  | .addAAtHL => false
  | .addAA => false
  | .adcAB => false
  | .adcAC => false
  | .adcAD => false
  | .adcAE => false
  | .adcAH => false
  | .adcAL => false
  | .adcAAtHL => false
  | .adcAA => false
  | .subB => false
  | .subC => false
  | .subD => false
  | .subE => false
  | .subH => false
  | .subL => false
  | .subAtHL => false
  | .subA => false
  | .sbcAB => false
  | .sbcAC => false
  | .sbcAD => false
  | .sbcAE => false
  | .sbcAH => false
  | .sbcAL => false
  | .sbcAAtHL => false
  | .sbcAA => false
  | .andB => false
  | .andC => false
  | .andD => false
  | .andE => false
  | .andH => false
  | .andL => false
  | .andAtHL => false
  | .andA => false
  | .xorB => false
  | .xorC => false
  | .xorD => false
  | .xorE => false
  | .xorH => false
  | .xorL => false
  | .xorAtHL => false
  | .xorA => false
  | .orB => false
  | .orC => false
  | .orD => false
  | .orE => false
  | .orH => false
  | .orL => false
  | .orAtHL => false
  | .orA => false
  | .cpB => false
  | .cpC => false
  | .cpD => false
  | .cpE => false
  | .cpH => false
  | .cpL => false
  | .cpAtHL => false
  | .cpA => false
  | .retNZ => false
  | .popBC => false
  | .jpNZImm16 => false
  | .jpImm16 => false
  | .callNZImm16 => false
  | .pushBC => false
  | .addAImm => false
  | .rst00 => false
  | .retZ => false
  | .ret => false
  | .jpZImm16 => false
  | .prefixCB => true
  | .callZImm16 => false
  | .callImm16 => false
  | .adcAImm => false
  | .rst08 => false
  | .retNC => false
  | .popDE => false
  | .jpNCImm16 => false
  | .outAtImmA => false
  | .callNCImm16 => false
  | .pushDE => false
  | .subImm => false
  | .rst10 => false
  | .retC => false
  | .exx => false
  | .jpCImm16 => false
  | .inAAtImm => false
  | .callCImm16 => false
  | .prefixDD => true
  | .sbcAImm => false
  | .rst18 => false
  | .retPO => false
  | .popHL => false
  | .jpPOImm16 => false
  | .exAtSPHL => false
  | .callPOImm16 => false
  | .pushHL => false
  | .andImm => false
  | .rst20 => false
  | .retPE => false
  | .jpAtHL => false
  | .jpPEImm16 => false
  | .exDEHL => false
  | .callPEImm16 => false
  | .prefixED => true
  | .xorImm => false
  | .rst28 => false
  | .retP => false
  | .popAF => false
  | .jpPImm16 => false
  | .di => false
  | .callPImm16 => false
  | .pushAF => false
  | .orImm => false
  | .rst30 => false
  | .retM => false
  | .ldSPHL => false
  | .jpMImm16 => false
  | .ei => false
  | .callMImm16 => false
  | .prefixFD => true
  | .cpImm => false
  | .rst38 => false
  | .rlcB => false
  | .rlcC => false
  | .rlcD => false
  | .rlcE => false
  | .rlcH => false
  | .rlcL => false
  | .rlcAtHL => false
  | .rlcA => false
  | .rrcB => false
  | .rrcC => false
  | .rrcD => false
  | .rrcE => false
  | .rrcH => false
  | .rrcL => false
  | .rrcAtHL => false
  | .rrcA => false
  | .rlB => false
  | .rlC => false
  | .rlD => false
  | .rlE => false
  | .rlH => false
  | .rlL => false
  | .rlAtHL => false
  | .rlA => false
  | .rrB => false
  | .rrC => false
  | .rrD => false
  | .rrE => false
  | .rrH => false
  | .rrL => false
  | .rrAtHL => false
  | .rrA => false
  | .slaB => false
  | .slaC => false
  | .slaD => false
  | .slaE => false
  | .slaH => false
  | .slaL => false
  | .slaAtHL => false
  | .slaA => false
  | .sraB => false
  | .sraC => false
  | .sraD => false
  | .sraE => false
  | .sraH => false
  | .sraL => false
  | .sraAtHL => false
  | .sraA => false
  | .sllB => false
  | .sllC => false
  | .sllD => false
  | .sllE => false
  | .sllH => false
  | .sllL => false
  | .sllAtHL => false
  | .sllA => false
  | .srlB => false
  | .srlC => false
  | .srlD => false
  | .srlE => false
  | .srlH => false
  | .srlL => false
  | .srlAtHL => false
  | .srlA => false
  | .bit0B => false
  | .bit0C => false
  | .bit0D => false
  | .bit0E => false
  | .bit0H => false
  | .bit0L => false
  | .bit0AtHL => false
  | .bit0A => false
  | .bit1B => false
  | .bit1C => false
  | .bit1D => false
  | .bit1E => false
  | .bit1H => false
  | .bit1L => false
  | .bit1AtHL => false
  | .bit1A => false
  | .bit2B => false
  | .bit2C => false
  | .bit2D => false
  | .bit2E => false
  | .bit2H => false
  | .bit2L => false
  | .bit2AtHL => false
  | .bit2A => false
  | .bit3B => false
  | .bit3C => false
  | .bit3D => false
  | .bit3E => false
  | .bit3H => false
  | .bit3L => false
  | .bit3AtHL => false
  | .bit3A => false
  | .bit4B => false
  | .bit4C => false
  | .bit4D => false
  | .bit4E => false
  | .bit4H => false
  | .bit4L => false
  | .bit4AtHL => false
  | .bit4A => false
  | .bit5B => false
  | .bit5C => false
  | .bit5D => false
  | .bit5E => false
  | .bit5H => false
  | .bit5L => false
  | .bit5AtHL => false
  | .bit5A => false
  | .bit6B => false
  | .bit6C => false
  | .bit6D => false
  | .bit6E => false
  | .bit6H => false
  | .bit6L => false
  | .bit6AtHL => false
  | .bit6A => false
  | .bit7B => false
  | .bit7C => false
  | .bit7D => false
  | .bit7E => false
  | .bit7H => false
  | .bit7L => false
  | .bit7AtHL => false
  | .bit7A => false
  | .res0B => false
  | .res0C => false
  | .res0D => false
  | .res0E => false
  | .res0H => false
  | .res0L => false
  | .res0AtHL => false
  | .res0A => false
  | .res1B => false
  | .res1C => false
  | .res1D => false
  | .res1E => false
  | .res1H => false
  | .res1L => false
  | .res1AtHL => false
  | .res1A => false
  | .res2B => false
  | .res2C => false
  | .res2D => false
  | .res2E => false
  | .res2H => false
  | .res2L => false
  | .res2AtHL => false
  | .res2A => false
  | .res3B => false
  | .res3C => false
  | .res3D => false
  | .res3E => false
  | .res3H => false
  | .res3L => false
  | .res3AtHL => false
  | .res3A => false
  | .res4B => false
  | .res4C => false
  | .res4D => false
  | .res4E => false
  | .res4H => false
  | .res4L => false
  | .res4AtHL => false
  | .res4A => false
  | .res5B => false
  | .res5C => false
  | .res5D => false
  | .res5E => false
  | .res5H => false
  | .res5L => false
  | .res5AtHL => false
  | .res5A => false
  | .res6B => false
  | .res6C => false
  | .res6D => false
  | .res6E => false
  | .res6H => false
  | .res6L => false
  | .res6AtHL => false
  | .res6A => false
  | .res7B => false
  | .res7C => false
  | .res7D => false
  | .res7E => false
  | .res7H => false
  | .res7L => false
  | .res7AtHL => false
  | .res7A => false
  | .set0B => false
  | .set0C => false
  | .set0D => false
  | .set0E => false
  | .set0H => false
  | .set0L => false
  | .set0AtHL => false
  | .set0A => false
  | .set1B => false
  | .set1C => false
  | .set1D => false
  | .set1E => false
  | .set1H => false
  | .set1L => false
  | .set1AtHL => false
  | .set1A => false
  | .set2B => false
  | .set2C => false
  | .set2D => false
  | .set2E => false
  | .set2H => false
  | .set2L => false
  | .set2AtHL => false
  | .set2A => false
  | .set3B => false
  | .set3C => false
  | .set3D => false
  | .set3E => false
  | .set3H => false
  | .set3L => false
  | .set3AtHL => false
  | .set3A => false
  | .set4B => false
  | .set4C => false
  | .set4D => false
  | .set4E => false
  | .set4H => false
  | .set4L => false
  | .set4AtHL => false
  | .set4A => false
  | .set5B => false
  | .set5C => false
  | .set5D => false
  | .set5E => false
  | .set5H => false
  | .set5L => false
  | .set5AtHL => false
  | .set5A => false
  | .set6B => false
  | .set6C => false
  | .set6D => false
  | .set6E => false
  | .set6H => false
  | .set6L => false
  | .set6AtHL => false
  | .set6A => false
  | .set7B => false
  | .set7C => false
  | .set7D => false
  | .set7E => false
  | .set7H => false
  | .set7L => false
  | .set7AtHL => false
  | .set7A => false
  | .inBAtC => false
  | .outAtCB => false
  | .sbcHLBC => false
  | .ldAtAbsBC => false
  | .ldIA => false
  | .inCAtC => false
  | .outAtCC => false
  | .adcHLBC => false
  | .ldBCAtAbs => false
  | .reti => false
  | .ldRA => false
  | .inDAtC => false
  | .outAtCD => false
  | .sbcHLDE => false
  | .ldAtAbsDE => false
  | .ldAI => false
  | .inEAtC => false
  | .outAtCE => false
  | .adcHLDE => false
  | .ldDEAtAbs => false
  | .ldAR => false
  | .inHAtC => false
  | .outAtCH => false
  | .sbcHLHL => false
  | .ldAtAbsHLEd => false
  | .rrd => false
  | .inLAtC => false
  | .outAtCL => false
  | .adcHLHL => false
  | .ldHLAtAbsEd => false
  | .rld => false
  | .inAtC => false
  | .outAtC0 => false
  | .sbcHLSP => false
  | .ldAtAbsSP => false
  | .inAAtC => false
  | .outAtCA => false
  | .adcHLSP => false
  | .ldSPAtAbs => false
  | .ldi => false
  | .cpi => false
  | .ini => false
  | .outi => false
  | .ldd => false
  | .cpd => false
  | .ind => false
  | .outd => false
  | .ldir => false
  | .cpir => false
  | .inir => false
  | .otir => false
  | .lddr => false
  | .cpdr => false
  | .indr => false
  | .otdr => false
  | .addIXBC => false
  | .addIXDE => false
  | .ldIXImm16 => false
  | .ldAtAbsIX => false
  | .incIX => false
  | .incIXH => false
  | .decIXH => false
  | .ldIXHImm => false
  | .addIXIX => false
  | .ldIXAtAbs => false
  | .decIX => false
  | .incIXL => false
  | .decIXL => false
  | .ldIXLImm => false
  | .incAtIXd => false
  | .decAtIXd => false
  | .ldAtIXdImm => false
  | .addIXSP => false
  | .ldBIXH => false
  | .ldBIXL => false
  | .ldBAtIXd => false
  | .ldCIXH => false
  | .ldCIXL => false
  | .ldCAtIXd => false
  | .ldDIXH => false
  | .ldDIXL => false
  | .ldDAtIXd => false
  | .ldEIXH => false
  | .ldEIXL => false
  | .ldEAtIXd => false
  | .ldIXHB => false
  | .ldIXHC => false
  | .ldIXHD => false
  | .ldIXHE => false
  | .ldIXHIXH => false
  | .ldIXHIXL => false
  | .ldHAtIXd => false
  | .ldIXHA => false
  | .ldIXLB => false
  | .ldIXLC => false
  | .ldIXLD => false
  | .ldIXLE => false
  | .ldIXLIXH => false
  | .ldIXLIXL => false
  | .ldLAtIXd => false
  | .ldIXLA => false
  | .ldAtIXdB => false
  | .ldAtIXdC => false
  | .ldAtIXdD => false
  | .ldAtIXdE => false
  | .ldAtIXdH => false
  | .ldAtIXdL => false
  | .ldAtIXdA => false
  | .ldAIXH => false
  | .ldAIXL => false
  | .ldAAtIXd => false
  | .addAIXH => false
  | .addAIXL => false
  | .addAAtIXd => false
  | .adcAIXH => false
  | .adcAIXL => false
  | .adcAAtIXd => false
  | .subIXH => false
  | .subIXL => false
  | .subAtIXd => false
  | .sbcAIXH => false
  | .sbcAIXL => false
  | .sbcAAtIXd => false
  | .andIXH => false
  | .andIXL => false
  | .andAtIXd => false
  | .xorIXH => false
  | .xorIXL => false
  | .xorAtIXd => false
  | .orIXH => false
  | .orIXL => false
  | .orAtIXd => false
  | .cpIXH => false
  | .cpIXL => false
  | .cpAtIXd => false
  | .popIX => false
  | .exAtSPIX => false
  | .pushIX => false
  | .jpAtIX => false
  | .ldSPIX => false
  | .addIYBC => false
  | .addIYDE => false
  | .ldIYImm16 => false
  | .ldAtAbsIY => false
  | .incIY => false
  | .incIYH => false
  | .decIYH => false
  | .ldIYHImm => false
  | .addIYIY => false
  | .ldIYAtAbs => false
  | .decIY => false
  | .incIYL => false
  | .decIYL => false
  | .ldIYLImm => false
  | .incAtIYd => false
  | .decAtIYd => false
  | .ldAtIYdImm => false
  | .addIYSP => false
  | .ldBIYH => false
  | .ldBIYL => false
  | .ldBAtIYd => false
  | .ldCIYH => false
  | .ldCIYL => false
  | .ldCAtIYd => false
  | .ldDIYH => false
  | .ldDIYL => false
  | .ldDAtIYd => false
  | .ldEIYH => false
  | .ldEIYL => false
  | .ldEAtIYd => false
  | .ldIYHB => false
  | .ldIYHC => false
  | .ldIYHD => false
  | .ldIYHE => false
  | .ldIYHIYH => false
  | .ldIYHIYL => false
  | .ldHAtIYd => false
  | .ldIYHA => false
  | .ldIYLB => false
  | .ldIYLC => false
  | .ldIYLD => false
  | .ldIYLE => false
  | .ldIYLIYH => false
  | .ldIYLIYL => false
  | .ldLAtIYd => false
  | .ldIYLA => false
  | .ldAtIYdB => false
  | .ldAtIYdC => false
  | .ldAtIYdD => false
  | .ldAtIYdE => false
  | .ldAtIYdH => false
  | .ldAtIYdL => false
  | .ldAtIYdA => false
  | .ldAIYH => false
  | .ldAIYL => false
  | .ldAAtIYd => false
  | .addAIYH => false
  | .addAIYL => false
  | .addAAtIYd => false
  | .adcAIYH => false
  | .adcAIYL => false
  | .adcAAtIYd => false
  | .subIYH => false
  | .subIYL => false
  | .subAtIYd => false
  | .sbcAIYH => false
  | .sbcAIYL => false
  | .sbcAAtIYd => false
  | .andIYH => false
  | .andIYL => false
  | .andAtIYd => false
  | .xorIYH => false
  | .xorIYL => false
  | .xorAtIYd => false
  | .orIYH => false
  | .orIYL => false
  | .orAtIYd => false
  | .cpIYH => false
  | .cpIYL => false
  | .cpAtIYd => false
  | .popIY => false
  | .exAtSPIY => false
  | .pushIY => false
  | .jpAtIY => false
  | .ldSPIY => false
  | .ldBRlcAtIXd => false
  | .ldCRlcAtIXd => false
  | .ldDRlcAtIXd => false
  | .ldERlcAtIXd => false
  | .ldHRlcAtIXd => false
  | .ldLRlcAtIXd => false
  | .rlcAtIXd => false
  | .ldARlcAtIXd => false
  | .ldBRrcAtIXd => false
  | .ldCRrcAtIXd => false
  | .ldDRrcAtIXd => false
  | .ldERrcAtIXd => false
  | .ldHRrcAtIXd => false
  | .ldLRrcAtIXd => false
  | .rrcAtIXd => false
  | .ldARrcAtIXd => false
  | .ldBRlAtIXd => false
  | .ldCRlAtIXd => false
  | .ldDRlAtIXd => false
  | .ldERlAtIXd => false
  | .ldHRlAtIXd => false
  | .ldLRlAtIXd => false
  | .rlAtIXd => false
  | .ldARlAtIXd => false
  | .ldBRrAtIXd => false
  | .ldCRrAtIXd => false
  | .ldDRrAtIXd => false
  | .ldERrAtIXd => false
  | .ldHRrAtIXd => false
  | .ldLRrAtIXd => false
  | .rrAtIXd => false
  | .ldARrAtIXd => false
  | .ldBSlaAtIXd => false
  | .ldCSlaAtIXd => false
  | .ldDSlaAtIXd => false
  | .ldESlaAtIXd => false
  | .ldHSlaAtIXd => false
  | .ldLSlaAtIXd => false
  | .slaAtIXd => false
  | .ldASlaAtIXd => false
  | .ldBSraAtIXd => false
  | .ldCSraAtIXd => false
  | .ldDSraAtIXd => false
  | .ldESraAtIXd => false
  | .ldHSraAtIXd => false
  | .ldLSraAtIXd => false
  | .sraAtIXd => false
  | .ldASraAtIXd => false
  | .ldBSllAtIXd => false
  | .ldCSllAtIXd => false
  | .ldDSllAtIXd => false
  | .ldESllAtIXd => false
  | .ldHSllAtIXd => false
  | .ldLSllAtIXd => false
  | .sllAtIXd => false
  | .ldASllAtIXd => false
  | .ldBSrlAtIXd => false
  | .ldCSrlAtIXd => false
  | .ldDSrlAtIXd => false
  | .ldESrlAtIXd => false
  | .ldHSrlAtIXd => false
  | .ldLSrlAtIXd => false
  | .srlAtIXd => false
  | .ldASrlAtIXd => false
  | .ldBRes0AtIXd => false
  | .ldCRes0AtIXd => false
  | .ldDRes0AtIXd => false
  | .ldERes0AtIXd => false
  | .ldHRes0AtIXd => false
  | .ldLRes0AtIXd => false
  | .res0AtIXd => false
  | .ldARes0AtIXd => false
  | .ldBRes1AtIXd => false
  | .ldCRes1AtIXd => false
  | .ldDRes1AtIXd => false
  | .ldERes1AtIXd => false
  | .ldHRes1AtIXd => false
  | .ldLRes1AtIXd => false
  | .res1AtIXd => false
  | .ldARes1AtIXd => false
  | .ldBRes2AtIXd => false
  | .ldCRes2AtIXd => false
  | .ldDRes2AtIXd => false
  | .ldERes2AtIXd => false
  | .ldHRes2AtIXd => false
  | .ldLRes2AtIXd => false
  | .res2AtIXd => false
  | .ldARes2AtIXd => false
  | .ldBRes3AtIXd => false
  | .ldCRes3AtIXd => false
  | .ldDRes3AtIXd => false
  | .ldERes3AtIXd => false
  | .ldHRes3AtIXd => false
  | .ldLRes3AtIXd => false
  | .res3AtIXd => false
  | .ldARes3AtIXd => false
  | .ldBRes4AtIXd => false
  | .ldCRes4AtIXd => false
  | .ldDRes4AtIXd => false
  | .ldERes4AtIXd => false
  | .ldHRes4AtIXd => false
  | .ldLRes4AtIXd => false
  | .res4AtIXd => false
  | .ldARes4AtIXd => false
  | .ldBRes5AtIXd => false
  | .ldCRes5AtIXd => false
  | .ldDRes5AtIXd => false
  | .ldERes5AtIXd => false
  | .ldHRes5AtIXd => false
  | .ldLRes5AtIXd => false
  | .res5AtIXd => false
  | .ldARes5AtIXd => false
  | .ldBRes6AtIXd => false
  | .ldCRes6AtIXd => false
  | .ldDRes6AtIXd => false
  | .ldERes6AtIXd => false
  | .ldHRes6AtIXd => false
  | .ldLRes6AtIXd => false
  | .res6AtIXd => false
  | .ldARes6AtIXd => false
  | .ldBRes7AtIXd => false
  | .ldCRes7AtIXd => false
  | .ldDRes7AtIXd => false
  | .ldERes7AtIXd => false
  | .ldHRes7AtIXd => false
  | .ldLRes7AtIXd => false
  | .res7AtIXd => false
  | .ldARes7AtIXd => false
  | .ldBSet0AtIXd => false
  | .ldCSet0AtIXd => false
  | .ldDSet0AtIXd => false
  | .ldESet0AtIXd => false
  | .ldHSet0AtIXd => false
  | .ldLSet0AtIXd => false
  | .set0AtIXd => false
  | .ldASet0AtIXd => false
  | .ldBSet1AtIXd => false
  | .ldCSet1AtIXd => false
  | .ldDSet1AtIXd => false
  | .ldESet1AtIXd => false
  | .ldHSet1AtIXd => false
  | .ldLSet1AtIXd => false
  | .set1AtIXd => false
  | .ldASet1AtIXd => false
  | .ldBSet2AtIXd => false
  | .ldCSet2AtIXd => false
  | .ldDSet2AtIXd => false
  | .ldESet2AtIXd => false
  | .ldHSet2AtIXd => false
  | .ldLSet2AtIXd => false
  | .set2AtIXd => false
  | .ldASet2AtIXd => false
  | .ldBSet3AtIXd => false
  | .ldCSet3AtIXd => false
  | .ldDSet3AtIXd => false
  | .ldESet3AtIXd => false
  | .ldHSet3AtIXd => false
  | .ldLSet3AtIXd => false
  | .set3AtIXd => false
  | .ldASet3AtIXd => false
  | .ldBSet4AtIXd => false
  | .ldCSet4AtIXd => false
  | .ldDSet4AtIXd => false
  | .ldESet4AtIXd => false
  | .ldHSet4AtIXd => false
  | .ldLSet4AtIXd => false
  | .set4AtIXd => false
  | .ldASet4AtIXd => false
  | .ldBSet5AtIXd => false
  | .ldCSet5AtIXd => false
  | .ldDSet5AtIXd => false
  | .ldESet5AtIXd => false
  | .ldHSet5AtIXd => false
  | .ldLSet5AtIXd => false
  | .set5AtIXd => false
  | .ldASet5AtIXd => false
  | .ldBSet6AtIXd => false
  | .ldCSet6AtIXd => false
  | .ldDSet6AtIXd => false
  | .ldESet6AtIXd => false
  | .ldHSet6AtIXd => false
  | .ldLSet6AtIXd => false
  | .set6AtIXd => false
  | .ldASet6AtIXd => false
  | .ldBSet7AtIXd => false
  | .ldCSet7AtIXd => false
  | .ldDSet7AtIXd => false
  | .ldESet7AtIXd => false
  | .ldHSet7AtIXd => false
  | .ldLSet7AtIXd => false
  | .set7AtIXd => false
  | .ldASet7AtIXd => false
  | .ldBRlcAtIYd => false
  | .ldCRlcAtIYd => false
  | .ldDRlcAtIYd => false
  | .ldERlcAtIYd => false
  | .ldHRlcAtIYd => false
  | .ldLRlcAtIYd => false
  | .rlcAtIYd => false
  | .ldARlcAtIYd => false
  | .ldBRrcAtIYd => false
  | .ldCRrcAtIYd => false
  | .ldDRrcAtIYd => false
  | .ldERrcAtIYd => false
  | .ldHRrcAtIYd => false
  | .ldLRrcAtIYd => false
  | .rrcAtIYd => false
  | .ldARrcAtIYd => false
  | .ldBRlAtIYd => false
  | .ldCRlAtIYd => false
  | .ldDRlAtIYd => false
  | .ldERlAtIYd => false
  | .ldHRlAtIYd => false
  | .ldLRlAtIYd => false
  | .rlAtIYd => false
  | .ldARlAtIYd => false
  | .ldBRrAtIYd => false
  | .ldCRrAtIYd => false
  | .ldDRrAtIYd => false
  | .ldERrAtIYd => false
  | .ldHRrAtIYd => false
  | .ldLRrAtIYd => false
  | .rrAtIYd => false
  | .ldARrAtIYd => false
  | .ldBSlaAtIYd => false
  | .ldCSlaAtIYd => false
  | .ldDSlaAtIYd => false
  | .ldESlaAtIYd => false
  | .ldHSlaAtIYd => false
  | .ldLSlaAtIYd => false
  | .slaAtIYd => false
  | .ldASlaAtIYd => false
  | .ldBSraAtIYd => false
  | .ldCSraAtIYd => false
  | .ldDSraAtIYd => false
  | .ldESraAtIYd => false
  | .ldHSraAtIYd => false
  | .ldLSraAtIYd => false
  | .sraAtIYd => false
  | .ldASraAtIYd => false
  | .ldBSllAtIYd => false
  | .ldCSllAtIYd => false
  | .ldDSllAtIYd => false
  | .ldESllAtIYd => false
  | .ldHSllAtIYd => false
  | .ldLSllAtIYd => false
  | .sllAtIYd => false
  | .ldASllAtIYd => false
  | .ldBSrlAtIYd => false
  | .ldCSrlAtIYd => false
  | .ldDSrlAtIYd => false
  | .ldESrlAtIYd => false
  | .ldHSrlAtIYd => false
  | .ldLSrlAtIYd => false
  | .srlAtIYd => false
  | .ldASrlAtIYd => false
  | .ldBRes0AtIYd => false
  | .ldCRes0AtIYd => false
  | .ldDRes0AtIYd => false
  | .ldERes0AtIYd => false
  | .ldHRes0AtIYd => false
  | .ldLRes0AtIYd => false
  | .res0AtIYd => false
  | .ldARes0AtIYd => false
  | .ldBRes1AtIYd => false
  | .ldCRes1AtIYd => false
  | .ldDRes1AtIYd => false
  | .ldERes1AtIYd => false
  | .ldHRes1AtIYd => false
  | .ldLRes1AtIYd => false
  | .res1AtIYd => false
  | .ldARes1AtIYd => false
  | .ldBRes2AtIYd => false
  | .ldCRes2AtIYd => false
  | .ldDRes2AtIYd => false
  | .ldERes2AtIYd => false
  | .ldHRes2AtIYd => false
  | .ldLRes2AtIYd => false
  | .res2AtIYd => false
  | .ldARes2AtIYd => false
  | .ldBRes3AtIYd => false
  | .ldCRes3AtIYd => false
  | .ldDRes3AtIYd => false
  | .ldERes3AtIYd => false
  | .ldHRes3AtIYd => false
  | .ldLRes3AtIYd => false
  | .res3AtIYd => false
  | .ldARes3AtIYd => false
  | .ldBRes4AtIYd => false
  | .ldCRes4AtIYd => false
  | .ldDRes4AtIYd => false
  | .ldERes4AtIYd => false
  | .ldHRes4AtIYd => false
  | .ldLRes4AtIYd => false
  | .res4AtIYd => false
  | .ldARes4AtIYd => false
  | .ldBRes5AtIYd => false
  | .ldCRes5AtIYd => false
  | .ldDRes5AtIYd => false
  | .ldERes5AtIYd => false
  | .ldHRes5AtIYd => false
  | .ldLRes5AtIYd => false
  | .res5AtIYd => false
  | .ldARes5AtIYd => false
  | .ldBRes6AtIYd => false
  | .ldCRes6AtIYd => false
  | .ldDRes6AtIYd => false
  | .ldERes6AtIYd => false
  | .ldHRes6AtIYd => false
  | .ldLRes6AtIYd => false
  | .res6AtIYd => false
  | .ldARes6AtIYd => false
  | .ldBRes7AtIYd => false
  | .ldCRes7AtIYd => false
  | .ldDRes7AtIYd => false
  | .ldERes7AtIYd => false
  | .ldHRes7AtIYd => false
  | .ldLRes7AtIYd => false
  | .res7AtIYd => false
  | .ldARes7AtIYd => false
  | .ldBSet0AtIYd => false
  | .ldCSet0AtIYd => false
  | .ldDSet0AtIYd => false
  | .ldESet0AtIYd => false
  | .ldHSet0AtIYd => false
  | .ldLSet0AtIYd => false
  | .set0AtIYd => false
  | .ldASet0AtIYd => false
  | .ldBSet1AtIYd => false
  | .ldCSet1AtIYd => false
  | .ldDSet1AtIYd => false
  | .ldESet1AtIYd => false
  | .ldHSet1AtIYd => false
  | .ldLSet1AtIYd => false
  | .set1AtIYd => false
  | .ldASet1AtIYd => false
  | .ldBSet2AtIYd => false
  | .ldCSet2AtIYd => false
  | .ldDSet2AtIYd => false
  | .ldESet2AtIYd => false
  | .ldHSet2AtIYd => false
  | .ldLSet2AtIYd => false
  | .set2AtIYd => false
  | .ldASet2AtIYd => false
  | .ldBSet3AtIYd => false
  | .ldCSet3AtIYd => false
  | .ldDSet3AtIYd => false
  | .ldESet3AtIYd => false
  | .ldHSet3AtIYd => false
  | .ldLSet3AtIYd => false
  | .set3AtIYd => false
  | .ldASet3AtIYd => false
  | .ldBSet4AtIYd => false
  | .ldCSet4AtIYd => false
  | .ldDSet4AtIYd => false
  | .ldESet4AtIYd => false
  | .ldHSet4AtIYd => false
  | .ldLSet4AtIYd => false
  | .set4AtIYd => false
  | .ldASet4AtIYd => false
  | .ldBSet5AtIYd => false
  | .ldCSet5AtIYd => false
  | .ldDSet5AtIYd => false
  | .ldESet5AtIYd => false
  | .ldHSet5AtIYd => false
  | .ldLSet5AtIYd => false
  | .set5AtIYd => false
  | .ldASet5AtIYd => false
  | .ldBSet6AtIYd => false
  | .ldCSet6AtIYd => false
  | .ldDSet6AtIYd => false
  | .ldESet6AtIYd => false
  | .ldHSet6AtIYd => false
  | .ldLSet6AtIYd => false
  | .set6AtIYd => false
  | .ldASet6AtIYd => false
  | .ldBSet7AtIYd => false
  | .ldCSet7AtIYd => false
  | .ldDSet7AtIYd => false
  | .ldESet7AtIYd => false
  | .ldHSet7AtIYd => false
  | .ldLSet7AtIYd => false
  | .set7AtIYd => false
  | .ldASet7AtIYd => false

/-! ## The encoder -/

/-- The byte that selects an index register (R430). -/
def Idx.prefixByte : Idx → Byte
  | .ix => 0xDD
  | .iy => 0xFD

/-- The bytes of an instruction with operand bytes `u` and `v`, in ascending address order (R110). Where it has
one operand byte or none, `v` or both are not used. -/
def encode (i : Instr) (u v : Byte) : List Byte :=
  match i with
  | .nopEd op => [0xED, op]
  | .neg y => [0xED, opcode 1 y.toNat 4]
  | .retn y => [0xED, opcode 1 y.toNat 5]
  | .im0 y => [0xED, opcode 1 y.toNat 6]
  | .im1 y => [0xED, opcode 1 y.toNat 6]
  | .im2 y => [0xED, opcode 1 y.toNat 6]
  | .nopPfx pp => [pp.prefixByte, 0x00]
  | .ldBCImm16Pfx pp => [pp.prefixByte, 0x01, u, v]
  | .ldAtBCAPfx pp => [pp.prefixByte, 0x02]
  | .incBCPfx pp => [pp.prefixByte, 0x03]
  | .incBPfx pp => [pp.prefixByte, 0x04]
  | .decBPfx pp => [pp.prefixByte, 0x05]
  | .ldBImmPfx pp => [pp.prefixByte, 0x06, u]
  | .rlcaPfx pp => [pp.prefixByte, 0x07]
  | .exAFAFAltPfx pp => [pp.prefixByte, 0x08]
  | .ldAAtBCPfx pp => [pp.prefixByte, 0x0A]
  | .decBCPfx pp => [pp.prefixByte, 0x0B]
  | .incCPfx pp => [pp.prefixByte, 0x0C]
  | .decCPfx pp => [pp.prefixByte, 0x0D]
  | .ldCImmPfx pp => [pp.prefixByte, 0x0E, u]
  | .rrcaPfx pp => [pp.prefixByte, 0x0F]
  | .djnzRelPfx pp => [pp.prefixByte, 0x10, u]
  | .ldDEImm16Pfx pp => [pp.prefixByte, 0x11, u, v]
  | .ldAtDEAPfx pp => [pp.prefixByte, 0x12]
  | .incDEPfx pp => [pp.prefixByte, 0x13]
  | .incDPfx pp => [pp.prefixByte, 0x14]
  | .decDPfx pp => [pp.prefixByte, 0x15]
  | .ldDImmPfx pp => [pp.prefixByte, 0x16, u]
  | .rlaPfx pp => [pp.prefixByte, 0x17]
  | .jrRelPfx pp => [pp.prefixByte, 0x18, u]
  | .ldAAtDEPfx pp => [pp.prefixByte, 0x1A]
  | .decDEPfx pp => [pp.prefixByte, 0x1B]
  | .incEPfx pp => [pp.prefixByte, 0x1C]
  | .decEPfx pp => [pp.prefixByte, 0x1D]
  | .ldEImmPfx pp => [pp.prefixByte, 0x1E, u]
  | .rraPfx pp => [pp.prefixByte, 0x1F]
  | .jrNZRelPfx pp => [pp.prefixByte, 0x20, u]
  | .daaPfx pp => [pp.prefixByte, 0x27]
  | .jrZRelPfx pp => [pp.prefixByte, 0x28, u]
  | .cplPfx pp => [pp.prefixByte, 0x2F]
  | .jrNCRelPfx pp => [pp.prefixByte, 0x30, u]
  | .ldSPImm16Pfx pp => [pp.prefixByte, 0x31, u, v]
  | .ldAtAbsAPfx pp => [pp.prefixByte, 0x32, u, v]
  | .incSPPfx pp => [pp.prefixByte, 0x33]
  | .scfPfx pp => [pp.prefixByte, 0x37]
  | .jrCRelPfx pp => [pp.prefixByte, 0x38, u]
  | .ldAAtAbsPfx pp => [pp.prefixByte, 0x3A, u, v]
  | .decSPPfx pp => [pp.prefixByte, 0x3B]
  | .incAPfx pp => [pp.prefixByte, 0x3C]
  | .decAPfx pp => [pp.prefixByte, 0x3D]
  | .ldAImmPfx pp => [pp.prefixByte, 0x3E, u]
  | .ccfPfx pp => [pp.prefixByte, 0x3F]
  | .ldBBPfx pp => [pp.prefixByte, 0x40]
  | .ldBCPfx pp => [pp.prefixByte, 0x41]
  | .ldBDPfx pp => [pp.prefixByte, 0x42]
  | .ldBEPfx pp => [pp.prefixByte, 0x43]
  | .ldBAPfx pp => [pp.prefixByte, 0x47]
  | .ldCBPfx pp => [pp.prefixByte, 0x48]
  | .ldCCPfx pp => [pp.prefixByte, 0x49]
  | .ldCDPfx pp => [pp.prefixByte, 0x4A]
  | .ldCEPfx pp => [pp.prefixByte, 0x4B]
  | .ldCAPfx pp => [pp.prefixByte, 0x4F]
  | .ldDBPfx pp => [pp.prefixByte, 0x50]
  | .ldDCPfx pp => [pp.prefixByte, 0x51]
  | .ldDDPfx pp => [pp.prefixByte, 0x52]
  | .ldDEPfx pp => [pp.prefixByte, 0x53]
  | .ldDAPfx pp => [pp.prefixByte, 0x57]
  | .ldEBPfx pp => [pp.prefixByte, 0x58]
  | .ldECPfx pp => [pp.prefixByte, 0x59]
  | .ldEDPfx pp => [pp.prefixByte, 0x5A]
  | .ldEEPfx pp => [pp.prefixByte, 0x5B]
  | .ldEAPfx pp => [pp.prefixByte, 0x5F]
  | .haltPfx pp => [pp.prefixByte, 0x76]
  | .ldABPfx pp => [pp.prefixByte, 0x78]
  | .ldACPfx pp => [pp.prefixByte, 0x79]
  | .ldADPfx pp => [pp.prefixByte, 0x7A]
  | .ldAEPfx pp => [pp.prefixByte, 0x7B]
  | .ldAAPfx pp => [pp.prefixByte, 0x7F]
  | .addABPfx pp => [pp.prefixByte, 0x80]
  | .addACPfx pp => [pp.prefixByte, 0x81]
  | .addADPfx pp => [pp.prefixByte, 0x82]
  | .addAEPfx pp => [pp.prefixByte, 0x83]
  | .addAAPfx pp => [pp.prefixByte, 0x87]
  | .adcABPfx pp => [pp.prefixByte, 0x88]
  | .adcACPfx pp => [pp.prefixByte, 0x89]
  | .adcADPfx pp => [pp.prefixByte, 0x8A]
  | .adcAEPfx pp => [pp.prefixByte, 0x8B]
  | .adcAAPfx pp => [pp.prefixByte, 0x8F]
  | .subBPfx pp => [pp.prefixByte, 0x90]
  | .subCPfx pp => [pp.prefixByte, 0x91]
  | .subDPfx pp => [pp.prefixByte, 0x92]
  | .subEPfx pp => [pp.prefixByte, 0x93]
  | .subAPfx pp => [pp.prefixByte, 0x97]
  | .sbcABPfx pp => [pp.prefixByte, 0x98]
  | .sbcACPfx pp => [pp.prefixByte, 0x99]
  | .sbcADPfx pp => [pp.prefixByte, 0x9A]
  | .sbcAEPfx pp => [pp.prefixByte, 0x9B]
  | .sbcAAPfx pp => [pp.prefixByte, 0x9F]
  | .andBPfx pp => [pp.prefixByte, 0xA0]
  | .andCPfx pp => [pp.prefixByte, 0xA1]
  | .andDPfx pp => [pp.prefixByte, 0xA2]
  | .andEPfx pp => [pp.prefixByte, 0xA3]
  | .andAPfx pp => [pp.prefixByte, 0xA7]
  | .xorBPfx pp => [pp.prefixByte, 0xA8]
  | .xorCPfx pp => [pp.prefixByte, 0xA9]
  | .xorDPfx pp => [pp.prefixByte, 0xAA]
  | .xorEPfx pp => [pp.prefixByte, 0xAB]
  | .xorAPfx pp => [pp.prefixByte, 0xAF]
  | .orBPfx pp => [pp.prefixByte, 0xB0]
  | .orCPfx pp => [pp.prefixByte, 0xB1]
  | .orDPfx pp => [pp.prefixByte, 0xB2]
  | .orEPfx pp => [pp.prefixByte, 0xB3]
  | .orAPfx pp => [pp.prefixByte, 0xB7]
  | .cpBPfx pp => [pp.prefixByte, 0xB8]
  | .cpCPfx pp => [pp.prefixByte, 0xB9]
  | .cpDPfx pp => [pp.prefixByte, 0xBA]
  | .cpEPfx pp => [pp.prefixByte, 0xBB]
  | .cpAPfx pp => [pp.prefixByte, 0xBF]
  | .retNZPfx pp => [pp.prefixByte, 0xC0]
  | .popBCPfx pp => [pp.prefixByte, 0xC1]
  | .jpNZImm16Pfx pp => [pp.prefixByte, 0xC2, u, v]
  | .jpImm16Pfx pp => [pp.prefixByte, 0xC3, u, v]
  | .callNZImm16Pfx pp => [pp.prefixByte, 0xC4, u, v]
  | .pushBCPfx pp => [pp.prefixByte, 0xC5]
  | .addAImmPfx pp => [pp.prefixByte, 0xC6, u]
  | .rst00Pfx pp => [pp.prefixByte, 0xC7]
  | .retZPfx pp => [pp.prefixByte, 0xC8]
  | .retPfx pp => [pp.prefixByte, 0xC9]
  | .jpZImm16Pfx pp => [pp.prefixByte, 0xCA, u, v]
  | .callZImm16Pfx pp => [pp.prefixByte, 0xCC, u, v]
  | .callImm16Pfx pp => [pp.prefixByte, 0xCD, u, v]
  | .adcAImmPfx pp => [pp.prefixByte, 0xCE, u]
  | .rst08Pfx pp => [pp.prefixByte, 0xCF]
  | .retNCPfx pp => [pp.prefixByte, 0xD0]
  | .popDEPfx pp => [pp.prefixByte, 0xD1]
  | .jpNCImm16Pfx pp => [pp.prefixByte, 0xD2, u, v]
  | .outAtImmAPfx pp => [pp.prefixByte, 0xD3, u]
  | .callNCImm16Pfx pp => [pp.prefixByte, 0xD4, u, v]
  | .pushDEPfx pp => [pp.prefixByte, 0xD5]
  | .subImmPfx pp => [pp.prefixByte, 0xD6, u]
  | .rst10Pfx pp => [pp.prefixByte, 0xD7]
  | .retCPfx pp => [pp.prefixByte, 0xD8]
  | .exxPfx pp => [pp.prefixByte, 0xD9]
  | .jpCImm16Pfx pp => [pp.prefixByte, 0xDA, u, v]
  | .inAAtImmPfx pp => [pp.prefixByte, 0xDB, u]
  | .callCImm16Pfx pp => [pp.prefixByte, 0xDC, u, v]
  | .prefixDDChain pp => [pp.prefixByte, 0xDD]
  | .sbcAImmPfx pp => [pp.prefixByte, 0xDE, u]
  | .rst18Pfx pp => [pp.prefixByte, 0xDF]
  | .retPOPfx pp => [pp.prefixByte, 0xE0]
  | .jpPOImm16Pfx pp => [pp.prefixByte, 0xE2, u, v]
  | .callPOImm16Pfx pp => [pp.prefixByte, 0xE4, u, v]
  | .andImmPfx pp => [pp.prefixByte, 0xE6, u]
  | .rst20Pfx pp => [pp.prefixByte, 0xE7]
  | .retPEPfx pp => [pp.prefixByte, 0xE8]
  | .jpPEImm16Pfx pp => [pp.prefixByte, 0xEA, u, v]
  | .exDEHLPfx pp => [pp.prefixByte, 0xEB]
  | .callPEImm16Pfx pp => [pp.prefixByte, 0xEC, u, v]
  | .prefixEDPfx pp => [pp.prefixByte, 0xED]
  | .xorImmPfx pp => [pp.prefixByte, 0xEE, u]
  | .rst28Pfx pp => [pp.prefixByte, 0xEF]
  | .retPPfx pp => [pp.prefixByte, 0xF0]
  | .popAFPfx pp => [pp.prefixByte, 0xF1]
  | .jpPImm16Pfx pp => [pp.prefixByte, 0xF2, u, v]
  | .diPfx pp => [pp.prefixByte, 0xF3]
  | .callPImm16Pfx pp => [pp.prefixByte, 0xF4, u, v]
  | .pushAFPfx pp => [pp.prefixByte, 0xF5]
  | .orImmPfx pp => [pp.prefixByte, 0xF6, u]
  | .rst30Pfx pp => [pp.prefixByte, 0xF7]
  | .retMPfx pp => [pp.prefixByte, 0xF8]
  | .jpMImm16Pfx pp => [pp.prefixByte, 0xFA, u, v]
  | .eiPfx pp => [pp.prefixByte, 0xFB]
  | .callMImm16Pfx pp => [pp.prefixByte, 0xFC, u, v]
  | .prefixFDChain pp => [pp.prefixByte, 0xFD]
  | .cpImmPfx pp => [pp.prefixByte, 0xFE, u]
  | .rst38Pfx pp => [pp.prefixByte, 0xFF]
  | .bit0AtIXd z => [0xDD, 0xCB, u, opcode 1 0 z.toNat]
  | .bit1AtIXd z => [0xDD, 0xCB, u, opcode 1 1 z.toNat]
  | .bit2AtIXd z => [0xDD, 0xCB, u, opcode 1 2 z.toNat]
  | .bit3AtIXd z => [0xDD, 0xCB, u, opcode 1 3 z.toNat]
  | .bit4AtIXd z => [0xDD, 0xCB, u, opcode 1 4 z.toNat]
  | .bit5AtIXd z => [0xDD, 0xCB, u, opcode 1 5 z.toNat]
  | .bit6AtIXd z => [0xDD, 0xCB, u, opcode 1 6 z.toNat]
  | .bit7AtIXd z => [0xDD, 0xCB, u, opcode 1 7 z.toNat]
  | .bit0AtIYd z => [0xFD, 0xCB, u, opcode 1 0 z.toNat]
  | .bit1AtIYd z => [0xFD, 0xCB, u, opcode 1 1 z.toNat]
  | .bit2AtIYd z => [0xFD, 0xCB, u, opcode 1 2 z.toNat]
  | .bit3AtIYd z => [0xFD, 0xCB, u, opcode 1 3 z.toNat]
  | .bit4AtIYd z => [0xFD, 0xCB, u, opcode 1 4 z.toNat]
  | .bit5AtIYd z => [0xFD, 0xCB, u, opcode 1 5 z.toNat]
  | .bit6AtIYd z => [0xFD, 0xCB, u, opcode 1 6 z.toNat]
  | .bit7AtIYd z => [0xFD, 0xCB, u, opcode 1 7 z.toNat]
  | .nop => [0x00]
  | .ldBCImm16 => [0x01, u, v]
  | .ldAtBCA => [0x02]
  | .incBC => [0x03]
  | .incB => [0x04]
  | .decB => [0x05]
  | .ldBImm => [0x06, u]
  | .rlca => [0x07]
  | .exAFAFAlt => [0x08]
  | .addHLBC => [0x09]
  | .ldAAtBC => [0x0A]
  | .decBC => [0x0B]
  | .incC => [0x0C]
  | .decC => [0x0D]
  | .ldCImm => [0x0E, u]
  | .rrca => [0x0F]
  | .djnzRel => [0x10, u]
  | .ldDEImm16 => [0x11, u, v]
  | .ldAtDEA => [0x12]
  | .incDE => [0x13]
  | .incD => [0x14]
  | .decD => [0x15]
  | .ldDImm => [0x16, u]
  | .rla => [0x17]
  | .jrRel => [0x18, u]
  | .addHLDE => [0x19]
  | .ldAAtDE => [0x1A]
  | .decDE => [0x1B]
  | .incE => [0x1C]
  | .decE => [0x1D]
  | .ldEImm => [0x1E, u]
  | .rra => [0x1F]
  | .jrNZRel => [0x20, u]
  | .ldHLImm16 => [0x21, u, v]
  | .ldAtAbsHL => [0x22, u, v]
  | .incHL => [0x23]
  | .incH => [0x24]
  | .decH => [0x25]
  | .ldHImm => [0x26, u]
  | .daa => [0x27]
  | .jrZRel => [0x28, u]
  | .addHLHL => [0x29]
  | .ldHLAtAbs => [0x2A, u, v]
  | .decHL => [0x2B]
  | .incL => [0x2C]
  | .decL => [0x2D]
  | .ldLImm => [0x2E, u]
  | .cpl => [0x2F]
  | .jrNCRel => [0x30, u]
  | .ldSPImm16 => [0x31, u, v]
  | .ldAtAbsA => [0x32, u, v]
  | .incSP => [0x33]
  | .incAtHL => [0x34]
  | .decAtHL => [0x35]
  | .ldAtHLImm => [0x36, u]
  | .scf => [0x37]
  | .jrCRel => [0x38, u]
  | .addHLSP => [0x39]
  | .ldAAtAbs => [0x3A, u, v]
  | .decSP => [0x3B]
  | .incA => [0x3C]
  | .decA => [0x3D]
  | .ldAImm => [0x3E, u]
  | .ccf => [0x3F]
  | .ldBB => [0x40]
  | .ldBC => [0x41]
  | .ldBD => [0x42]
  | .ldBE => [0x43]
  | .ldBH => [0x44]
  | .ldBL => [0x45]
  | .ldBAtHL => [0x46]
  | .ldBA => [0x47]
  | .ldCB => [0x48]
  | .ldCC => [0x49]
  | .ldCD => [0x4A]
  | .ldCE => [0x4B]
  | .ldCH => [0x4C]
  | .ldCL => [0x4D]
  | .ldCAtHL => [0x4E]
  | .ldCA => [0x4F]
  | .ldDB => [0x50]
  | .ldDC => [0x51]
  | .ldDD => [0x52]
  | .ldDE => [0x53]
  | .ldDH => [0x54]
  | .ldDL => [0x55]
  | .ldDAtHL => [0x56]
  | .ldDA => [0x57]
  | .ldEB => [0x58]
  | .ldEC => [0x59]
  | .ldED => [0x5A]
  | .ldEE => [0x5B]
  | .ldEH => [0x5C]
  | .ldEL => [0x5D]
  | .ldEAtHL => [0x5E]
  | .ldEA => [0x5F]
  | .ldHB => [0x60]
  | .ldHC => [0x61]
  | .ldHD => [0x62]
  | .ldHE => [0x63]
  | .ldHH => [0x64]
  | .ldHL => [0x65]
  | .ldHAtHL => [0x66]
  | .ldHA => [0x67]
  | .ldLB => [0x68]
  | .ldLC => [0x69]
  | .ldLD => [0x6A]
  | .ldLE => [0x6B]
  | .ldLH => [0x6C]
  | .ldLL => [0x6D]
  | .ldLAtHL => [0x6E]
  | .ldLA => [0x6F]
  | .ldAtHLB => [0x70]
  | .ldAtHLC => [0x71]
  | .ldAtHLD => [0x72]
  | .ldAtHLE => [0x73]
  | .ldAtHLH => [0x74]
  | .ldAtHLL => [0x75]
  | .halt => [0x76]
  | .ldAtHLA => [0x77]
  | .ldAB => [0x78]
  | .ldAC => [0x79]
  | .ldAD => [0x7A]
  | .ldAE => [0x7B]
  | .ldAH => [0x7C]
  | .ldAL => [0x7D]
  | .ldAAtHL => [0x7E]
  | .ldAA => [0x7F]
  | .addAB => [0x80]
  | .addAC => [0x81]
  | .addAD => [0x82]
  | .addAE => [0x83]
  | .addAH => [0x84]
  | .addAL => [0x85]
  | .addAAtHL => [0x86]
  | .addAA => [0x87]
  | .adcAB => [0x88]
  | .adcAC => [0x89]
  | .adcAD => [0x8A]
  | .adcAE => [0x8B]
  | .adcAH => [0x8C]
  | .adcAL => [0x8D]
  | .adcAAtHL => [0x8E]
  | .adcAA => [0x8F]
  | .subB => [0x90]
  | .subC => [0x91]
  | .subD => [0x92]
  | .subE => [0x93]
  | .subH => [0x94]
  | .subL => [0x95]
  | .subAtHL => [0x96]
  | .subA => [0x97]
  | .sbcAB => [0x98]
  | .sbcAC => [0x99]
  | .sbcAD => [0x9A]
  | .sbcAE => [0x9B]
  | .sbcAH => [0x9C]
  | .sbcAL => [0x9D]
  | .sbcAAtHL => [0x9E]
  | .sbcAA => [0x9F]
  | .andB => [0xA0]
  | .andC => [0xA1]
  | .andD => [0xA2]
  | .andE => [0xA3]
  | .andH => [0xA4]
  | .andL => [0xA5]
  | .andAtHL => [0xA6]
  | .andA => [0xA7]
  | .xorB => [0xA8]
  | .xorC => [0xA9]
  | .xorD => [0xAA]
  | .xorE => [0xAB]
  | .xorH => [0xAC]
  | .xorL => [0xAD]
  | .xorAtHL => [0xAE]
  | .xorA => [0xAF]
  | .orB => [0xB0]
  | .orC => [0xB1]
  | .orD => [0xB2]
  | .orE => [0xB3]
  | .orH => [0xB4]
  | .orL => [0xB5]
  | .orAtHL => [0xB6]
  | .orA => [0xB7]
  | .cpB => [0xB8]
  | .cpC => [0xB9]
  | .cpD => [0xBA]
  | .cpE => [0xBB]
  | .cpH => [0xBC]
  | .cpL => [0xBD]
  | .cpAtHL => [0xBE]
  | .cpA => [0xBF]
  | .retNZ => [0xC0]
  | .popBC => [0xC1]
  | .jpNZImm16 => [0xC2, u, v]
  | .jpImm16 => [0xC3, u, v]
  | .callNZImm16 => [0xC4, u, v]
  | .pushBC => [0xC5]
  | .addAImm => [0xC6, u]
  | .rst00 => [0xC7]
  | .retZ => [0xC8]
  | .ret => [0xC9]
  | .jpZImm16 => [0xCA, u, v]
  | .prefixCB => [0xCB]
  | .callZImm16 => [0xCC, u, v]
  | .callImm16 => [0xCD, u, v]
  | .adcAImm => [0xCE, u]
  | .rst08 => [0xCF]
  | .retNC => [0xD0]
  | .popDE => [0xD1]
  | .jpNCImm16 => [0xD2, u, v]
  | .outAtImmA => [0xD3, u]
  | .callNCImm16 => [0xD4, u, v]
  | .pushDE => [0xD5]
  | .subImm => [0xD6, u]
  | .rst10 => [0xD7]
  | .retC => [0xD8]
  | .exx => [0xD9]
  | .jpCImm16 => [0xDA, u, v]
  | .inAAtImm => [0xDB, u]
  | .callCImm16 => [0xDC, u, v]
  | .prefixDD => [0xDD]
  | .sbcAImm => [0xDE, u]
  | .rst18 => [0xDF]
  | .retPO => [0xE0]
  | .popHL => [0xE1]
  | .jpPOImm16 => [0xE2, u, v]
  | .exAtSPHL => [0xE3]
  | .callPOImm16 => [0xE4, u, v]
  | .pushHL => [0xE5]
  | .andImm => [0xE6, u]
  | .rst20 => [0xE7]
  | .retPE => [0xE8]
  | .jpAtHL => [0xE9]
  | .jpPEImm16 => [0xEA, u, v]
  | .exDEHL => [0xEB]
  | .callPEImm16 => [0xEC, u, v]
  | .prefixED => [0xED]
  | .xorImm => [0xEE, u]
  | .rst28 => [0xEF]
  | .retP => [0xF0]
  | .popAF => [0xF1]
  | .jpPImm16 => [0xF2, u, v]
  | .di => [0xF3]
  | .callPImm16 => [0xF4, u, v]
  | .pushAF => [0xF5]
  | .orImm => [0xF6, u]
  | .rst30 => [0xF7]
  | .retM => [0xF8]
  | .ldSPHL => [0xF9]
  | .jpMImm16 => [0xFA, u, v]
  | .ei => [0xFB]
  | .callMImm16 => [0xFC, u, v]
  | .prefixFD => [0xFD]
  | .cpImm => [0xFE, u]
  | .rst38 => [0xFF]
  | .rlcB => [0xCB, 0x00]
  | .rlcC => [0xCB, 0x01]
  | .rlcD => [0xCB, 0x02]
  | .rlcE => [0xCB, 0x03]
  | .rlcH => [0xCB, 0x04]
  | .rlcL => [0xCB, 0x05]
  | .rlcAtHL => [0xCB, 0x06]
  | .rlcA => [0xCB, 0x07]
  | .rrcB => [0xCB, 0x08]
  | .rrcC => [0xCB, 0x09]
  | .rrcD => [0xCB, 0x0A]
  | .rrcE => [0xCB, 0x0B]
  | .rrcH => [0xCB, 0x0C]
  | .rrcL => [0xCB, 0x0D]
  | .rrcAtHL => [0xCB, 0x0E]
  | .rrcA => [0xCB, 0x0F]
  | .rlB => [0xCB, 0x10]
  | .rlC => [0xCB, 0x11]
  | .rlD => [0xCB, 0x12]
  | .rlE => [0xCB, 0x13]
  | .rlH => [0xCB, 0x14]
  | .rlL => [0xCB, 0x15]
  | .rlAtHL => [0xCB, 0x16]
  | .rlA => [0xCB, 0x17]
  | .rrB => [0xCB, 0x18]
  | .rrC => [0xCB, 0x19]
  | .rrD => [0xCB, 0x1A]
  | .rrE => [0xCB, 0x1B]
  | .rrH => [0xCB, 0x1C]
  | .rrL => [0xCB, 0x1D]
  | .rrAtHL => [0xCB, 0x1E]
  | .rrA => [0xCB, 0x1F]
  | .slaB => [0xCB, 0x20]
  | .slaC => [0xCB, 0x21]
  | .slaD => [0xCB, 0x22]
  | .slaE => [0xCB, 0x23]
  | .slaH => [0xCB, 0x24]
  | .slaL => [0xCB, 0x25]
  | .slaAtHL => [0xCB, 0x26]
  | .slaA => [0xCB, 0x27]
  | .sraB => [0xCB, 0x28]
  | .sraC => [0xCB, 0x29]
  | .sraD => [0xCB, 0x2A]
  | .sraE => [0xCB, 0x2B]
  | .sraH => [0xCB, 0x2C]
  | .sraL => [0xCB, 0x2D]
  | .sraAtHL => [0xCB, 0x2E]
  | .sraA => [0xCB, 0x2F]
  | .sllB => [0xCB, 0x30]
  | .sllC => [0xCB, 0x31]
  | .sllD => [0xCB, 0x32]
  | .sllE => [0xCB, 0x33]
  | .sllH => [0xCB, 0x34]
  | .sllL => [0xCB, 0x35]
  | .sllAtHL => [0xCB, 0x36]
  | .sllA => [0xCB, 0x37]
  | .srlB => [0xCB, 0x38]
  | .srlC => [0xCB, 0x39]
  | .srlD => [0xCB, 0x3A]
  | .srlE => [0xCB, 0x3B]
  | .srlH => [0xCB, 0x3C]
  | .srlL => [0xCB, 0x3D]
  | .srlAtHL => [0xCB, 0x3E]
  | .srlA => [0xCB, 0x3F]
  | .bit0B => [0xCB, 0x40]
  | .bit0C => [0xCB, 0x41]
  | .bit0D => [0xCB, 0x42]
  | .bit0E => [0xCB, 0x43]
  | .bit0H => [0xCB, 0x44]
  | .bit0L => [0xCB, 0x45]
  | .bit0AtHL => [0xCB, 0x46]
  | .bit0A => [0xCB, 0x47]
  | .bit1B => [0xCB, 0x48]
  | .bit1C => [0xCB, 0x49]
  | .bit1D => [0xCB, 0x4A]
  | .bit1E => [0xCB, 0x4B]
  | .bit1H => [0xCB, 0x4C]
  | .bit1L => [0xCB, 0x4D]
  | .bit1AtHL => [0xCB, 0x4E]
  | .bit1A => [0xCB, 0x4F]
  | .bit2B => [0xCB, 0x50]
  | .bit2C => [0xCB, 0x51]
  | .bit2D => [0xCB, 0x52]
  | .bit2E => [0xCB, 0x53]
  | .bit2H => [0xCB, 0x54]
  | .bit2L => [0xCB, 0x55]
  | .bit2AtHL => [0xCB, 0x56]
  | .bit2A => [0xCB, 0x57]
  | .bit3B => [0xCB, 0x58]
  | .bit3C => [0xCB, 0x59]
  | .bit3D => [0xCB, 0x5A]
  | .bit3E => [0xCB, 0x5B]
  | .bit3H => [0xCB, 0x5C]
  | .bit3L => [0xCB, 0x5D]
  | .bit3AtHL => [0xCB, 0x5E]
  | .bit3A => [0xCB, 0x5F]
  | .bit4B => [0xCB, 0x60]
  | .bit4C => [0xCB, 0x61]
  | .bit4D => [0xCB, 0x62]
  | .bit4E => [0xCB, 0x63]
  | .bit4H => [0xCB, 0x64]
  | .bit4L => [0xCB, 0x65]
  | .bit4AtHL => [0xCB, 0x66]
  | .bit4A => [0xCB, 0x67]
  | .bit5B => [0xCB, 0x68]
  | .bit5C => [0xCB, 0x69]
  | .bit5D => [0xCB, 0x6A]
  | .bit5E => [0xCB, 0x6B]
  | .bit5H => [0xCB, 0x6C]
  | .bit5L => [0xCB, 0x6D]
  | .bit5AtHL => [0xCB, 0x6E]
  | .bit5A => [0xCB, 0x6F]
  | .bit6B => [0xCB, 0x70]
  | .bit6C => [0xCB, 0x71]
  | .bit6D => [0xCB, 0x72]
  | .bit6E => [0xCB, 0x73]
  | .bit6H => [0xCB, 0x74]
  | .bit6L => [0xCB, 0x75]
  | .bit6AtHL => [0xCB, 0x76]
  | .bit6A => [0xCB, 0x77]
  | .bit7B => [0xCB, 0x78]
  | .bit7C => [0xCB, 0x79]
  | .bit7D => [0xCB, 0x7A]
  | .bit7E => [0xCB, 0x7B]
  | .bit7H => [0xCB, 0x7C]
  | .bit7L => [0xCB, 0x7D]
  | .bit7AtHL => [0xCB, 0x7E]
  | .bit7A => [0xCB, 0x7F]
  | .res0B => [0xCB, 0x80]
  | .res0C => [0xCB, 0x81]
  | .res0D => [0xCB, 0x82]
  | .res0E => [0xCB, 0x83]
  | .res0H => [0xCB, 0x84]
  | .res0L => [0xCB, 0x85]
  | .res0AtHL => [0xCB, 0x86]
  | .res0A => [0xCB, 0x87]
  | .res1B => [0xCB, 0x88]
  | .res1C => [0xCB, 0x89]
  | .res1D => [0xCB, 0x8A]
  | .res1E => [0xCB, 0x8B]
  | .res1H => [0xCB, 0x8C]
  | .res1L => [0xCB, 0x8D]
  | .res1AtHL => [0xCB, 0x8E]
  | .res1A => [0xCB, 0x8F]
  | .res2B => [0xCB, 0x90]
  | .res2C => [0xCB, 0x91]
  | .res2D => [0xCB, 0x92]
  | .res2E => [0xCB, 0x93]
  | .res2H => [0xCB, 0x94]
  | .res2L => [0xCB, 0x95]
  | .res2AtHL => [0xCB, 0x96]
  | .res2A => [0xCB, 0x97]
  | .res3B => [0xCB, 0x98]
  | .res3C => [0xCB, 0x99]
  | .res3D => [0xCB, 0x9A]
  | .res3E => [0xCB, 0x9B]
  | .res3H => [0xCB, 0x9C]
  | .res3L => [0xCB, 0x9D]
  | .res3AtHL => [0xCB, 0x9E]
  | .res3A => [0xCB, 0x9F]
  | .res4B => [0xCB, 0xA0]
  | .res4C => [0xCB, 0xA1]
  | .res4D => [0xCB, 0xA2]
  | .res4E => [0xCB, 0xA3]
  | .res4H => [0xCB, 0xA4]
  | .res4L => [0xCB, 0xA5]
  | .res4AtHL => [0xCB, 0xA6]
  | .res4A => [0xCB, 0xA7]
  | .res5B => [0xCB, 0xA8]
  | .res5C => [0xCB, 0xA9]
  | .res5D => [0xCB, 0xAA]
  | .res5E => [0xCB, 0xAB]
  | .res5H => [0xCB, 0xAC]
  | .res5L => [0xCB, 0xAD]
  | .res5AtHL => [0xCB, 0xAE]
  | .res5A => [0xCB, 0xAF]
  | .res6B => [0xCB, 0xB0]
  | .res6C => [0xCB, 0xB1]
  | .res6D => [0xCB, 0xB2]
  | .res6E => [0xCB, 0xB3]
  | .res6H => [0xCB, 0xB4]
  | .res6L => [0xCB, 0xB5]
  | .res6AtHL => [0xCB, 0xB6]
  | .res6A => [0xCB, 0xB7]
  | .res7B => [0xCB, 0xB8]
  | .res7C => [0xCB, 0xB9]
  | .res7D => [0xCB, 0xBA]
  | .res7E => [0xCB, 0xBB]
  | .res7H => [0xCB, 0xBC]
  | .res7L => [0xCB, 0xBD]
  | .res7AtHL => [0xCB, 0xBE]
  | .res7A => [0xCB, 0xBF]
  | .set0B => [0xCB, 0xC0]
  | .set0C => [0xCB, 0xC1]
  | .set0D => [0xCB, 0xC2]
  | .set0E => [0xCB, 0xC3]
  | .set0H => [0xCB, 0xC4]
  | .set0L => [0xCB, 0xC5]
  | .set0AtHL => [0xCB, 0xC6]
  | .set0A => [0xCB, 0xC7]
  | .set1B => [0xCB, 0xC8]
  | .set1C => [0xCB, 0xC9]
  | .set1D => [0xCB, 0xCA]
  | .set1E => [0xCB, 0xCB]
  | .set1H => [0xCB, 0xCC]
  | .set1L => [0xCB, 0xCD]
  | .set1AtHL => [0xCB, 0xCE]
  | .set1A => [0xCB, 0xCF]
  | .set2B => [0xCB, 0xD0]
  | .set2C => [0xCB, 0xD1]
  | .set2D => [0xCB, 0xD2]
  | .set2E => [0xCB, 0xD3]
  | .set2H => [0xCB, 0xD4]
  | .set2L => [0xCB, 0xD5]
  | .set2AtHL => [0xCB, 0xD6]
  | .set2A => [0xCB, 0xD7]
  | .set3B => [0xCB, 0xD8]
  | .set3C => [0xCB, 0xD9]
  | .set3D => [0xCB, 0xDA]
  | .set3E => [0xCB, 0xDB]
  | .set3H => [0xCB, 0xDC]
  | .set3L => [0xCB, 0xDD]
  | .set3AtHL => [0xCB, 0xDE]
  | .set3A => [0xCB, 0xDF]
  | .set4B => [0xCB, 0xE0]
  | .set4C => [0xCB, 0xE1]
  | .set4D => [0xCB, 0xE2]
  | .set4E => [0xCB, 0xE3]
  | .set4H => [0xCB, 0xE4]
  | .set4L => [0xCB, 0xE5]
  | .set4AtHL => [0xCB, 0xE6]
  | .set4A => [0xCB, 0xE7]
  | .set5B => [0xCB, 0xE8]
  | .set5C => [0xCB, 0xE9]
  | .set5D => [0xCB, 0xEA]
  | .set5E => [0xCB, 0xEB]
  | .set5H => [0xCB, 0xEC]
  | .set5L => [0xCB, 0xED]
  | .set5AtHL => [0xCB, 0xEE]
  | .set5A => [0xCB, 0xEF]
  | .set6B => [0xCB, 0xF0]
  | .set6C => [0xCB, 0xF1]
  | .set6D => [0xCB, 0xF2]
  | .set6E => [0xCB, 0xF3]
  | .set6H => [0xCB, 0xF4]
  | .set6L => [0xCB, 0xF5]
  | .set6AtHL => [0xCB, 0xF6]
  | .set6A => [0xCB, 0xF7]
  | .set7B => [0xCB, 0xF8]
  | .set7C => [0xCB, 0xF9]
  | .set7D => [0xCB, 0xFA]
  | .set7E => [0xCB, 0xFB]
  | .set7H => [0xCB, 0xFC]
  | .set7L => [0xCB, 0xFD]
  | .set7AtHL => [0xCB, 0xFE]
  | .set7A => [0xCB, 0xFF]
  | .inBAtC => [0xED, 0x40]
  | .outAtCB => [0xED, 0x41]
  | .sbcHLBC => [0xED, 0x42]
  | .ldAtAbsBC => [0xED, 0x43, u, v]
  | .ldIA => [0xED, 0x47]
  | .inCAtC => [0xED, 0x48]
  | .outAtCC => [0xED, 0x49]
  | .adcHLBC => [0xED, 0x4A]
  | .ldBCAtAbs => [0xED, 0x4B, u, v]
  | .reti => [0xED, 0x4D]
  | .ldRA => [0xED, 0x4F]
  | .inDAtC => [0xED, 0x50]
  | .outAtCD => [0xED, 0x51]
  | .sbcHLDE => [0xED, 0x52]
  | .ldAtAbsDE => [0xED, 0x53, u, v]
  | .ldAI => [0xED, 0x57]
  | .inEAtC => [0xED, 0x58]
  | .outAtCE => [0xED, 0x59]
  | .adcHLDE => [0xED, 0x5A]
  | .ldDEAtAbs => [0xED, 0x5B, u, v]
  | .ldAR => [0xED, 0x5F]
  | .inHAtC => [0xED, 0x60]
  | .outAtCH => [0xED, 0x61]
  | .sbcHLHL => [0xED, 0x62]
  | .ldAtAbsHLEd => [0xED, 0x63, u, v]
  | .rrd => [0xED, 0x67]
  | .inLAtC => [0xED, 0x68]
  | .outAtCL => [0xED, 0x69]
  | .adcHLHL => [0xED, 0x6A]
  | .ldHLAtAbsEd => [0xED, 0x6B, u, v]
  | .rld => [0xED, 0x6F]
  | .inAtC => [0xED, 0x70]
  | .outAtC0 => [0xED, 0x71]
  | .sbcHLSP => [0xED, 0x72]
  | .ldAtAbsSP => [0xED, 0x73, u, v]
  | .inAAtC => [0xED, 0x78]
  | .outAtCA => [0xED, 0x79]
  | .adcHLSP => [0xED, 0x7A]
  | .ldSPAtAbs => [0xED, 0x7B, u, v]
  | .ldi => [0xED, 0xA0]
  | .cpi => [0xED, 0xA1]
  | .ini => [0xED, 0xA2]
  | .outi => [0xED, 0xA3]
  | .ldd => [0xED, 0xA8]
  | .cpd => [0xED, 0xA9]
  | .ind => [0xED, 0xAA]
  | .outd => [0xED, 0xAB]
  | .ldir => [0xED, 0xB0]
  | .cpir => [0xED, 0xB1]
  | .inir => [0xED, 0xB2]
  | .otir => [0xED, 0xB3]
  | .lddr => [0xED, 0xB8]
  | .cpdr => [0xED, 0xB9]
  | .indr => [0xED, 0xBA]
  | .otdr => [0xED, 0xBB]
  | .addIXBC => [0xDD, 0x09]
  | .addIXDE => [0xDD, 0x19]
  | .ldIXImm16 => [0xDD, 0x21, u, v]
  | .ldAtAbsIX => [0xDD, 0x22, u, v]
  | .incIX => [0xDD, 0x23]
  | .incIXH => [0xDD, 0x24]
  | .decIXH => [0xDD, 0x25]
  | .ldIXHImm => [0xDD, 0x26, u]
  | .addIXIX => [0xDD, 0x29]
  | .ldIXAtAbs => [0xDD, 0x2A, u, v]
  | .decIX => [0xDD, 0x2B]
  | .incIXL => [0xDD, 0x2C]
  | .decIXL => [0xDD, 0x2D]
  | .ldIXLImm => [0xDD, 0x2E, u]
  | .incAtIXd => [0xDD, 0x34, u]
  | .decAtIXd => [0xDD, 0x35, u]
  | .ldAtIXdImm => [0xDD, 0x36, u, v]
  | .addIXSP => [0xDD, 0x39]
  | .ldBIXH => [0xDD, 0x44]
  | .ldBIXL => [0xDD, 0x45]
  | .ldBAtIXd => [0xDD, 0x46, u]
  | .ldCIXH => [0xDD, 0x4C]
  | .ldCIXL => [0xDD, 0x4D]
  | .ldCAtIXd => [0xDD, 0x4E, u]
  | .ldDIXH => [0xDD, 0x54]
  | .ldDIXL => [0xDD, 0x55]
  | .ldDAtIXd => [0xDD, 0x56, u]
  | .ldEIXH => [0xDD, 0x5C]
  | .ldEIXL => [0xDD, 0x5D]
  | .ldEAtIXd => [0xDD, 0x5E, u]
  | .ldIXHB => [0xDD, 0x60]
  | .ldIXHC => [0xDD, 0x61]
  | .ldIXHD => [0xDD, 0x62]
  | .ldIXHE => [0xDD, 0x63]
  | .ldIXHIXH => [0xDD, 0x64]
  | .ldIXHIXL => [0xDD, 0x65]
  | .ldHAtIXd => [0xDD, 0x66, u]
  | .ldIXHA => [0xDD, 0x67]
  | .ldIXLB => [0xDD, 0x68]
  | .ldIXLC => [0xDD, 0x69]
  | .ldIXLD => [0xDD, 0x6A]
  | .ldIXLE => [0xDD, 0x6B]
  | .ldIXLIXH => [0xDD, 0x6C]
  | .ldIXLIXL => [0xDD, 0x6D]
  | .ldLAtIXd => [0xDD, 0x6E, u]
  | .ldIXLA => [0xDD, 0x6F]
  | .ldAtIXdB => [0xDD, 0x70, u]
  | .ldAtIXdC => [0xDD, 0x71, u]
  | .ldAtIXdD => [0xDD, 0x72, u]
  | .ldAtIXdE => [0xDD, 0x73, u]
  | .ldAtIXdH => [0xDD, 0x74, u]
  | .ldAtIXdL => [0xDD, 0x75, u]
  | .ldAtIXdA => [0xDD, 0x77, u]
  | .ldAIXH => [0xDD, 0x7C]
  | .ldAIXL => [0xDD, 0x7D]
  | .ldAAtIXd => [0xDD, 0x7E, u]
  | .addAIXH => [0xDD, 0x84]
  | .addAIXL => [0xDD, 0x85]
  | .addAAtIXd => [0xDD, 0x86, u]
  | .adcAIXH => [0xDD, 0x8C]
  | .adcAIXL => [0xDD, 0x8D]
  | .adcAAtIXd => [0xDD, 0x8E, u]
  | .subIXH => [0xDD, 0x94]
  | .subIXL => [0xDD, 0x95]
  | .subAtIXd => [0xDD, 0x96, u]
  | .sbcAIXH => [0xDD, 0x9C]
  | .sbcAIXL => [0xDD, 0x9D]
  | .sbcAAtIXd => [0xDD, 0x9E, u]
  | .andIXH => [0xDD, 0xA4]
  | .andIXL => [0xDD, 0xA5]
  | .andAtIXd => [0xDD, 0xA6, u]
  | .xorIXH => [0xDD, 0xAC]
  | .xorIXL => [0xDD, 0xAD]
  | .xorAtIXd => [0xDD, 0xAE, u]
  | .orIXH => [0xDD, 0xB4]
  | .orIXL => [0xDD, 0xB5]
  | .orAtIXd => [0xDD, 0xB6, u]
  | .cpIXH => [0xDD, 0xBC]
  | .cpIXL => [0xDD, 0xBD]
  | .cpAtIXd => [0xDD, 0xBE, u]
  | .popIX => [0xDD, 0xE1]
  | .exAtSPIX => [0xDD, 0xE3]
  | .pushIX => [0xDD, 0xE5]
  | .jpAtIX => [0xDD, 0xE9]
  | .ldSPIX => [0xDD, 0xF9]
  | .addIYBC => [0xFD, 0x09]
  | .addIYDE => [0xFD, 0x19]
  | .ldIYImm16 => [0xFD, 0x21, u, v]
  | .ldAtAbsIY => [0xFD, 0x22, u, v]
  | .incIY => [0xFD, 0x23]
  | .incIYH => [0xFD, 0x24]
  | .decIYH => [0xFD, 0x25]
  | .ldIYHImm => [0xFD, 0x26, u]
  | .addIYIY => [0xFD, 0x29]
  | .ldIYAtAbs => [0xFD, 0x2A, u, v]
  | .decIY => [0xFD, 0x2B]
  | .incIYL => [0xFD, 0x2C]
  | .decIYL => [0xFD, 0x2D]
  | .ldIYLImm => [0xFD, 0x2E, u]
  | .incAtIYd => [0xFD, 0x34, u]
  | .decAtIYd => [0xFD, 0x35, u]
  | .ldAtIYdImm => [0xFD, 0x36, u, v]
  | .addIYSP => [0xFD, 0x39]
  | .ldBIYH => [0xFD, 0x44]
  | .ldBIYL => [0xFD, 0x45]
  | .ldBAtIYd => [0xFD, 0x46, u]
  | .ldCIYH => [0xFD, 0x4C]
  | .ldCIYL => [0xFD, 0x4D]
  | .ldCAtIYd => [0xFD, 0x4E, u]
  | .ldDIYH => [0xFD, 0x54]
  | .ldDIYL => [0xFD, 0x55]
  | .ldDAtIYd => [0xFD, 0x56, u]
  | .ldEIYH => [0xFD, 0x5C]
  | .ldEIYL => [0xFD, 0x5D]
  | .ldEAtIYd => [0xFD, 0x5E, u]
  | .ldIYHB => [0xFD, 0x60]
  | .ldIYHC => [0xFD, 0x61]
  | .ldIYHD => [0xFD, 0x62]
  | .ldIYHE => [0xFD, 0x63]
  | .ldIYHIYH => [0xFD, 0x64]
  | .ldIYHIYL => [0xFD, 0x65]
  | .ldHAtIYd => [0xFD, 0x66, u]
  | .ldIYHA => [0xFD, 0x67]
  | .ldIYLB => [0xFD, 0x68]
  | .ldIYLC => [0xFD, 0x69]
  | .ldIYLD => [0xFD, 0x6A]
  | .ldIYLE => [0xFD, 0x6B]
  | .ldIYLIYH => [0xFD, 0x6C]
  | .ldIYLIYL => [0xFD, 0x6D]
  | .ldLAtIYd => [0xFD, 0x6E, u]
  | .ldIYLA => [0xFD, 0x6F]
  | .ldAtIYdB => [0xFD, 0x70, u]
  | .ldAtIYdC => [0xFD, 0x71, u]
  | .ldAtIYdD => [0xFD, 0x72, u]
  | .ldAtIYdE => [0xFD, 0x73, u]
  | .ldAtIYdH => [0xFD, 0x74, u]
  | .ldAtIYdL => [0xFD, 0x75, u]
  | .ldAtIYdA => [0xFD, 0x77, u]
  | .ldAIYH => [0xFD, 0x7C]
  | .ldAIYL => [0xFD, 0x7D]
  | .ldAAtIYd => [0xFD, 0x7E, u]
  | .addAIYH => [0xFD, 0x84]
  | .addAIYL => [0xFD, 0x85]
  | .addAAtIYd => [0xFD, 0x86, u]
  | .adcAIYH => [0xFD, 0x8C]
  | .adcAIYL => [0xFD, 0x8D]
  | .adcAAtIYd => [0xFD, 0x8E, u]
  | .subIYH => [0xFD, 0x94]
  | .subIYL => [0xFD, 0x95]
  | .subAtIYd => [0xFD, 0x96, u]
  | .sbcAIYH => [0xFD, 0x9C]
  | .sbcAIYL => [0xFD, 0x9D]
  | .sbcAAtIYd => [0xFD, 0x9E, u]
  | .andIYH => [0xFD, 0xA4]
  | .andIYL => [0xFD, 0xA5]
  | .andAtIYd => [0xFD, 0xA6, u]
  | .xorIYH => [0xFD, 0xAC]
  | .xorIYL => [0xFD, 0xAD]
  | .xorAtIYd => [0xFD, 0xAE, u]
  | .orIYH => [0xFD, 0xB4]
  | .orIYL => [0xFD, 0xB5]
  | .orAtIYd => [0xFD, 0xB6, u]
  | .cpIYH => [0xFD, 0xBC]
  | .cpIYL => [0xFD, 0xBD]
  | .cpAtIYd => [0xFD, 0xBE, u]
  | .popIY => [0xFD, 0xE1]
  | .exAtSPIY => [0xFD, 0xE3]
  | .pushIY => [0xFD, 0xE5]
  | .jpAtIY => [0xFD, 0xE9]
  | .ldSPIY => [0xFD, 0xF9]
  | .ldBRlcAtIXd => [0xDD, 0xCB, u, 0x00]
  | .ldCRlcAtIXd => [0xDD, 0xCB, u, 0x01]
  | .ldDRlcAtIXd => [0xDD, 0xCB, u, 0x02]
  | .ldERlcAtIXd => [0xDD, 0xCB, u, 0x03]
  | .ldHRlcAtIXd => [0xDD, 0xCB, u, 0x04]
  | .ldLRlcAtIXd => [0xDD, 0xCB, u, 0x05]
  | .rlcAtIXd => [0xDD, 0xCB, u, 0x06]
  | .ldARlcAtIXd => [0xDD, 0xCB, u, 0x07]
  | .ldBRrcAtIXd => [0xDD, 0xCB, u, 0x08]
  | .ldCRrcAtIXd => [0xDD, 0xCB, u, 0x09]
  | .ldDRrcAtIXd => [0xDD, 0xCB, u, 0x0A]
  | .ldERrcAtIXd => [0xDD, 0xCB, u, 0x0B]
  | .ldHRrcAtIXd => [0xDD, 0xCB, u, 0x0C]
  | .ldLRrcAtIXd => [0xDD, 0xCB, u, 0x0D]
  | .rrcAtIXd => [0xDD, 0xCB, u, 0x0E]
  | .ldARrcAtIXd => [0xDD, 0xCB, u, 0x0F]
  | .ldBRlAtIXd => [0xDD, 0xCB, u, 0x10]
  | .ldCRlAtIXd => [0xDD, 0xCB, u, 0x11]
  | .ldDRlAtIXd => [0xDD, 0xCB, u, 0x12]
  | .ldERlAtIXd => [0xDD, 0xCB, u, 0x13]
  | .ldHRlAtIXd => [0xDD, 0xCB, u, 0x14]
  | .ldLRlAtIXd => [0xDD, 0xCB, u, 0x15]
  | .rlAtIXd => [0xDD, 0xCB, u, 0x16]
  | .ldARlAtIXd => [0xDD, 0xCB, u, 0x17]
  | .ldBRrAtIXd => [0xDD, 0xCB, u, 0x18]
  | .ldCRrAtIXd => [0xDD, 0xCB, u, 0x19]
  | .ldDRrAtIXd => [0xDD, 0xCB, u, 0x1A]
  | .ldERrAtIXd => [0xDD, 0xCB, u, 0x1B]
  | .ldHRrAtIXd => [0xDD, 0xCB, u, 0x1C]
  | .ldLRrAtIXd => [0xDD, 0xCB, u, 0x1D]
  | .rrAtIXd => [0xDD, 0xCB, u, 0x1E]
  | .ldARrAtIXd => [0xDD, 0xCB, u, 0x1F]
  | .ldBSlaAtIXd => [0xDD, 0xCB, u, 0x20]
  | .ldCSlaAtIXd => [0xDD, 0xCB, u, 0x21]
  | .ldDSlaAtIXd => [0xDD, 0xCB, u, 0x22]
  | .ldESlaAtIXd => [0xDD, 0xCB, u, 0x23]
  | .ldHSlaAtIXd => [0xDD, 0xCB, u, 0x24]
  | .ldLSlaAtIXd => [0xDD, 0xCB, u, 0x25]
  | .slaAtIXd => [0xDD, 0xCB, u, 0x26]
  | .ldASlaAtIXd => [0xDD, 0xCB, u, 0x27]
  | .ldBSraAtIXd => [0xDD, 0xCB, u, 0x28]
  | .ldCSraAtIXd => [0xDD, 0xCB, u, 0x29]
  | .ldDSraAtIXd => [0xDD, 0xCB, u, 0x2A]
  | .ldESraAtIXd => [0xDD, 0xCB, u, 0x2B]
  | .ldHSraAtIXd => [0xDD, 0xCB, u, 0x2C]
  | .ldLSraAtIXd => [0xDD, 0xCB, u, 0x2D]
  | .sraAtIXd => [0xDD, 0xCB, u, 0x2E]
  | .ldASraAtIXd => [0xDD, 0xCB, u, 0x2F]
  | .ldBSllAtIXd => [0xDD, 0xCB, u, 0x30]
  | .ldCSllAtIXd => [0xDD, 0xCB, u, 0x31]
  | .ldDSllAtIXd => [0xDD, 0xCB, u, 0x32]
  | .ldESllAtIXd => [0xDD, 0xCB, u, 0x33]
  | .ldHSllAtIXd => [0xDD, 0xCB, u, 0x34]
  | .ldLSllAtIXd => [0xDD, 0xCB, u, 0x35]
  | .sllAtIXd => [0xDD, 0xCB, u, 0x36]
  | .ldASllAtIXd => [0xDD, 0xCB, u, 0x37]
  | .ldBSrlAtIXd => [0xDD, 0xCB, u, 0x38]
  | .ldCSrlAtIXd => [0xDD, 0xCB, u, 0x39]
  | .ldDSrlAtIXd => [0xDD, 0xCB, u, 0x3A]
  | .ldESrlAtIXd => [0xDD, 0xCB, u, 0x3B]
  | .ldHSrlAtIXd => [0xDD, 0xCB, u, 0x3C]
  | .ldLSrlAtIXd => [0xDD, 0xCB, u, 0x3D]
  | .srlAtIXd => [0xDD, 0xCB, u, 0x3E]
  | .ldASrlAtIXd => [0xDD, 0xCB, u, 0x3F]
  | .ldBRes0AtIXd => [0xDD, 0xCB, u, 0x80]
  | .ldCRes0AtIXd => [0xDD, 0xCB, u, 0x81]
  | .ldDRes0AtIXd => [0xDD, 0xCB, u, 0x82]
  | .ldERes0AtIXd => [0xDD, 0xCB, u, 0x83]
  | .ldHRes0AtIXd => [0xDD, 0xCB, u, 0x84]
  | .ldLRes0AtIXd => [0xDD, 0xCB, u, 0x85]
  | .res0AtIXd => [0xDD, 0xCB, u, 0x86]
  | .ldARes0AtIXd => [0xDD, 0xCB, u, 0x87]
  | .ldBRes1AtIXd => [0xDD, 0xCB, u, 0x88]
  | .ldCRes1AtIXd => [0xDD, 0xCB, u, 0x89]
  | .ldDRes1AtIXd => [0xDD, 0xCB, u, 0x8A]
  | .ldERes1AtIXd => [0xDD, 0xCB, u, 0x8B]
  | .ldHRes1AtIXd => [0xDD, 0xCB, u, 0x8C]
  | .ldLRes1AtIXd => [0xDD, 0xCB, u, 0x8D]
  | .res1AtIXd => [0xDD, 0xCB, u, 0x8E]
  | .ldARes1AtIXd => [0xDD, 0xCB, u, 0x8F]
  | .ldBRes2AtIXd => [0xDD, 0xCB, u, 0x90]
  | .ldCRes2AtIXd => [0xDD, 0xCB, u, 0x91]
  | .ldDRes2AtIXd => [0xDD, 0xCB, u, 0x92]
  | .ldERes2AtIXd => [0xDD, 0xCB, u, 0x93]
  | .ldHRes2AtIXd => [0xDD, 0xCB, u, 0x94]
  | .ldLRes2AtIXd => [0xDD, 0xCB, u, 0x95]
  | .res2AtIXd => [0xDD, 0xCB, u, 0x96]
  | .ldARes2AtIXd => [0xDD, 0xCB, u, 0x97]
  | .ldBRes3AtIXd => [0xDD, 0xCB, u, 0x98]
  | .ldCRes3AtIXd => [0xDD, 0xCB, u, 0x99]
  | .ldDRes3AtIXd => [0xDD, 0xCB, u, 0x9A]
  | .ldERes3AtIXd => [0xDD, 0xCB, u, 0x9B]
  | .ldHRes3AtIXd => [0xDD, 0xCB, u, 0x9C]
  | .ldLRes3AtIXd => [0xDD, 0xCB, u, 0x9D]
  | .res3AtIXd => [0xDD, 0xCB, u, 0x9E]
  | .ldARes3AtIXd => [0xDD, 0xCB, u, 0x9F]
  | .ldBRes4AtIXd => [0xDD, 0xCB, u, 0xA0]
  | .ldCRes4AtIXd => [0xDD, 0xCB, u, 0xA1]
  | .ldDRes4AtIXd => [0xDD, 0xCB, u, 0xA2]
  | .ldERes4AtIXd => [0xDD, 0xCB, u, 0xA3]
  | .ldHRes4AtIXd => [0xDD, 0xCB, u, 0xA4]
  | .ldLRes4AtIXd => [0xDD, 0xCB, u, 0xA5]
  | .res4AtIXd => [0xDD, 0xCB, u, 0xA6]
  | .ldARes4AtIXd => [0xDD, 0xCB, u, 0xA7]
  | .ldBRes5AtIXd => [0xDD, 0xCB, u, 0xA8]
  | .ldCRes5AtIXd => [0xDD, 0xCB, u, 0xA9]
  | .ldDRes5AtIXd => [0xDD, 0xCB, u, 0xAA]
  | .ldERes5AtIXd => [0xDD, 0xCB, u, 0xAB]
  | .ldHRes5AtIXd => [0xDD, 0xCB, u, 0xAC]
  | .ldLRes5AtIXd => [0xDD, 0xCB, u, 0xAD]
  | .res5AtIXd => [0xDD, 0xCB, u, 0xAE]
  | .ldARes5AtIXd => [0xDD, 0xCB, u, 0xAF]
  | .ldBRes6AtIXd => [0xDD, 0xCB, u, 0xB0]
  | .ldCRes6AtIXd => [0xDD, 0xCB, u, 0xB1]
  | .ldDRes6AtIXd => [0xDD, 0xCB, u, 0xB2]
  | .ldERes6AtIXd => [0xDD, 0xCB, u, 0xB3]
  | .ldHRes6AtIXd => [0xDD, 0xCB, u, 0xB4]
  | .ldLRes6AtIXd => [0xDD, 0xCB, u, 0xB5]
  | .res6AtIXd => [0xDD, 0xCB, u, 0xB6]
  | .ldARes6AtIXd => [0xDD, 0xCB, u, 0xB7]
  | .ldBRes7AtIXd => [0xDD, 0xCB, u, 0xB8]
  | .ldCRes7AtIXd => [0xDD, 0xCB, u, 0xB9]
  | .ldDRes7AtIXd => [0xDD, 0xCB, u, 0xBA]
  | .ldERes7AtIXd => [0xDD, 0xCB, u, 0xBB]
  | .ldHRes7AtIXd => [0xDD, 0xCB, u, 0xBC]
  | .ldLRes7AtIXd => [0xDD, 0xCB, u, 0xBD]
  | .res7AtIXd => [0xDD, 0xCB, u, 0xBE]
  | .ldARes7AtIXd => [0xDD, 0xCB, u, 0xBF]
  | .ldBSet0AtIXd => [0xDD, 0xCB, u, 0xC0]
  | .ldCSet0AtIXd => [0xDD, 0xCB, u, 0xC1]
  | .ldDSet0AtIXd => [0xDD, 0xCB, u, 0xC2]
  | .ldESet0AtIXd => [0xDD, 0xCB, u, 0xC3]
  | .ldHSet0AtIXd => [0xDD, 0xCB, u, 0xC4]
  | .ldLSet0AtIXd => [0xDD, 0xCB, u, 0xC5]
  | .set0AtIXd => [0xDD, 0xCB, u, 0xC6]
  | .ldASet0AtIXd => [0xDD, 0xCB, u, 0xC7]
  | .ldBSet1AtIXd => [0xDD, 0xCB, u, 0xC8]
  | .ldCSet1AtIXd => [0xDD, 0xCB, u, 0xC9]
  | .ldDSet1AtIXd => [0xDD, 0xCB, u, 0xCA]
  | .ldESet1AtIXd => [0xDD, 0xCB, u, 0xCB]
  | .ldHSet1AtIXd => [0xDD, 0xCB, u, 0xCC]
  | .ldLSet1AtIXd => [0xDD, 0xCB, u, 0xCD]
  | .set1AtIXd => [0xDD, 0xCB, u, 0xCE]
  | .ldASet1AtIXd => [0xDD, 0xCB, u, 0xCF]
  | .ldBSet2AtIXd => [0xDD, 0xCB, u, 0xD0]
  | .ldCSet2AtIXd => [0xDD, 0xCB, u, 0xD1]
  | .ldDSet2AtIXd => [0xDD, 0xCB, u, 0xD2]
  | .ldESet2AtIXd => [0xDD, 0xCB, u, 0xD3]
  | .ldHSet2AtIXd => [0xDD, 0xCB, u, 0xD4]
  | .ldLSet2AtIXd => [0xDD, 0xCB, u, 0xD5]
  | .set2AtIXd => [0xDD, 0xCB, u, 0xD6]
  | .ldASet2AtIXd => [0xDD, 0xCB, u, 0xD7]
  | .ldBSet3AtIXd => [0xDD, 0xCB, u, 0xD8]
  | .ldCSet3AtIXd => [0xDD, 0xCB, u, 0xD9]
  | .ldDSet3AtIXd => [0xDD, 0xCB, u, 0xDA]
  | .ldESet3AtIXd => [0xDD, 0xCB, u, 0xDB]
  | .ldHSet3AtIXd => [0xDD, 0xCB, u, 0xDC]
  | .ldLSet3AtIXd => [0xDD, 0xCB, u, 0xDD]
  | .set3AtIXd => [0xDD, 0xCB, u, 0xDE]
  | .ldASet3AtIXd => [0xDD, 0xCB, u, 0xDF]
  | .ldBSet4AtIXd => [0xDD, 0xCB, u, 0xE0]
  | .ldCSet4AtIXd => [0xDD, 0xCB, u, 0xE1]
  | .ldDSet4AtIXd => [0xDD, 0xCB, u, 0xE2]
  | .ldESet4AtIXd => [0xDD, 0xCB, u, 0xE3]
  | .ldHSet4AtIXd => [0xDD, 0xCB, u, 0xE4]
  | .ldLSet4AtIXd => [0xDD, 0xCB, u, 0xE5]
  | .set4AtIXd => [0xDD, 0xCB, u, 0xE6]
  | .ldASet4AtIXd => [0xDD, 0xCB, u, 0xE7]
  | .ldBSet5AtIXd => [0xDD, 0xCB, u, 0xE8]
  | .ldCSet5AtIXd => [0xDD, 0xCB, u, 0xE9]
  | .ldDSet5AtIXd => [0xDD, 0xCB, u, 0xEA]
  | .ldESet5AtIXd => [0xDD, 0xCB, u, 0xEB]
  | .ldHSet5AtIXd => [0xDD, 0xCB, u, 0xEC]
  | .ldLSet5AtIXd => [0xDD, 0xCB, u, 0xED]
  | .set5AtIXd => [0xDD, 0xCB, u, 0xEE]
  | .ldASet5AtIXd => [0xDD, 0xCB, u, 0xEF]
  | .ldBSet6AtIXd => [0xDD, 0xCB, u, 0xF0]
  | .ldCSet6AtIXd => [0xDD, 0xCB, u, 0xF1]
  | .ldDSet6AtIXd => [0xDD, 0xCB, u, 0xF2]
  | .ldESet6AtIXd => [0xDD, 0xCB, u, 0xF3]
  | .ldHSet6AtIXd => [0xDD, 0xCB, u, 0xF4]
  | .ldLSet6AtIXd => [0xDD, 0xCB, u, 0xF5]
  | .set6AtIXd => [0xDD, 0xCB, u, 0xF6]
  | .ldASet6AtIXd => [0xDD, 0xCB, u, 0xF7]
  | .ldBSet7AtIXd => [0xDD, 0xCB, u, 0xF8]
  | .ldCSet7AtIXd => [0xDD, 0xCB, u, 0xF9]
  | .ldDSet7AtIXd => [0xDD, 0xCB, u, 0xFA]
  | .ldESet7AtIXd => [0xDD, 0xCB, u, 0xFB]
  | .ldHSet7AtIXd => [0xDD, 0xCB, u, 0xFC]
  | .ldLSet7AtIXd => [0xDD, 0xCB, u, 0xFD]
  | .set7AtIXd => [0xDD, 0xCB, u, 0xFE]
  | .ldASet7AtIXd => [0xDD, 0xCB, u, 0xFF]
  | .ldBRlcAtIYd => [0xFD, 0xCB, u, 0x00]
  | .ldCRlcAtIYd => [0xFD, 0xCB, u, 0x01]
  | .ldDRlcAtIYd => [0xFD, 0xCB, u, 0x02]
  | .ldERlcAtIYd => [0xFD, 0xCB, u, 0x03]
  | .ldHRlcAtIYd => [0xFD, 0xCB, u, 0x04]
  | .ldLRlcAtIYd => [0xFD, 0xCB, u, 0x05]
  | .rlcAtIYd => [0xFD, 0xCB, u, 0x06]
  | .ldARlcAtIYd => [0xFD, 0xCB, u, 0x07]
  | .ldBRrcAtIYd => [0xFD, 0xCB, u, 0x08]
  | .ldCRrcAtIYd => [0xFD, 0xCB, u, 0x09]
  | .ldDRrcAtIYd => [0xFD, 0xCB, u, 0x0A]
  | .ldERrcAtIYd => [0xFD, 0xCB, u, 0x0B]
  | .ldHRrcAtIYd => [0xFD, 0xCB, u, 0x0C]
  | .ldLRrcAtIYd => [0xFD, 0xCB, u, 0x0D]
  | .rrcAtIYd => [0xFD, 0xCB, u, 0x0E]
  | .ldARrcAtIYd => [0xFD, 0xCB, u, 0x0F]
  | .ldBRlAtIYd => [0xFD, 0xCB, u, 0x10]
  | .ldCRlAtIYd => [0xFD, 0xCB, u, 0x11]
  | .ldDRlAtIYd => [0xFD, 0xCB, u, 0x12]
  | .ldERlAtIYd => [0xFD, 0xCB, u, 0x13]
  | .ldHRlAtIYd => [0xFD, 0xCB, u, 0x14]
  | .ldLRlAtIYd => [0xFD, 0xCB, u, 0x15]
  | .rlAtIYd => [0xFD, 0xCB, u, 0x16]
  | .ldARlAtIYd => [0xFD, 0xCB, u, 0x17]
  | .ldBRrAtIYd => [0xFD, 0xCB, u, 0x18]
  | .ldCRrAtIYd => [0xFD, 0xCB, u, 0x19]
  | .ldDRrAtIYd => [0xFD, 0xCB, u, 0x1A]
  | .ldERrAtIYd => [0xFD, 0xCB, u, 0x1B]
  | .ldHRrAtIYd => [0xFD, 0xCB, u, 0x1C]
  | .ldLRrAtIYd => [0xFD, 0xCB, u, 0x1D]
  | .rrAtIYd => [0xFD, 0xCB, u, 0x1E]
  | .ldARrAtIYd => [0xFD, 0xCB, u, 0x1F]
  | .ldBSlaAtIYd => [0xFD, 0xCB, u, 0x20]
  | .ldCSlaAtIYd => [0xFD, 0xCB, u, 0x21]
  | .ldDSlaAtIYd => [0xFD, 0xCB, u, 0x22]
  | .ldESlaAtIYd => [0xFD, 0xCB, u, 0x23]
  | .ldHSlaAtIYd => [0xFD, 0xCB, u, 0x24]
  | .ldLSlaAtIYd => [0xFD, 0xCB, u, 0x25]
  | .slaAtIYd => [0xFD, 0xCB, u, 0x26]
  | .ldASlaAtIYd => [0xFD, 0xCB, u, 0x27]
  | .ldBSraAtIYd => [0xFD, 0xCB, u, 0x28]
  | .ldCSraAtIYd => [0xFD, 0xCB, u, 0x29]
  | .ldDSraAtIYd => [0xFD, 0xCB, u, 0x2A]
  | .ldESraAtIYd => [0xFD, 0xCB, u, 0x2B]
  | .ldHSraAtIYd => [0xFD, 0xCB, u, 0x2C]
  | .ldLSraAtIYd => [0xFD, 0xCB, u, 0x2D]
  | .sraAtIYd => [0xFD, 0xCB, u, 0x2E]
  | .ldASraAtIYd => [0xFD, 0xCB, u, 0x2F]
  | .ldBSllAtIYd => [0xFD, 0xCB, u, 0x30]
  | .ldCSllAtIYd => [0xFD, 0xCB, u, 0x31]
  | .ldDSllAtIYd => [0xFD, 0xCB, u, 0x32]
  | .ldESllAtIYd => [0xFD, 0xCB, u, 0x33]
  | .ldHSllAtIYd => [0xFD, 0xCB, u, 0x34]
  | .ldLSllAtIYd => [0xFD, 0xCB, u, 0x35]
  | .sllAtIYd => [0xFD, 0xCB, u, 0x36]
  | .ldASllAtIYd => [0xFD, 0xCB, u, 0x37]
  | .ldBSrlAtIYd => [0xFD, 0xCB, u, 0x38]
  | .ldCSrlAtIYd => [0xFD, 0xCB, u, 0x39]
  | .ldDSrlAtIYd => [0xFD, 0xCB, u, 0x3A]
  | .ldESrlAtIYd => [0xFD, 0xCB, u, 0x3B]
  | .ldHSrlAtIYd => [0xFD, 0xCB, u, 0x3C]
  | .ldLSrlAtIYd => [0xFD, 0xCB, u, 0x3D]
  | .srlAtIYd => [0xFD, 0xCB, u, 0x3E]
  | .ldASrlAtIYd => [0xFD, 0xCB, u, 0x3F]
  | .ldBRes0AtIYd => [0xFD, 0xCB, u, 0x80]
  | .ldCRes0AtIYd => [0xFD, 0xCB, u, 0x81]
  | .ldDRes0AtIYd => [0xFD, 0xCB, u, 0x82]
  | .ldERes0AtIYd => [0xFD, 0xCB, u, 0x83]
  | .ldHRes0AtIYd => [0xFD, 0xCB, u, 0x84]
  | .ldLRes0AtIYd => [0xFD, 0xCB, u, 0x85]
  | .res0AtIYd => [0xFD, 0xCB, u, 0x86]
  | .ldARes0AtIYd => [0xFD, 0xCB, u, 0x87]
  | .ldBRes1AtIYd => [0xFD, 0xCB, u, 0x88]
  | .ldCRes1AtIYd => [0xFD, 0xCB, u, 0x89]
  | .ldDRes1AtIYd => [0xFD, 0xCB, u, 0x8A]
  | .ldERes1AtIYd => [0xFD, 0xCB, u, 0x8B]
  | .ldHRes1AtIYd => [0xFD, 0xCB, u, 0x8C]
  | .ldLRes1AtIYd => [0xFD, 0xCB, u, 0x8D]
  | .res1AtIYd => [0xFD, 0xCB, u, 0x8E]
  | .ldARes1AtIYd => [0xFD, 0xCB, u, 0x8F]
  | .ldBRes2AtIYd => [0xFD, 0xCB, u, 0x90]
  | .ldCRes2AtIYd => [0xFD, 0xCB, u, 0x91]
  | .ldDRes2AtIYd => [0xFD, 0xCB, u, 0x92]
  | .ldERes2AtIYd => [0xFD, 0xCB, u, 0x93]
  | .ldHRes2AtIYd => [0xFD, 0xCB, u, 0x94]
  | .ldLRes2AtIYd => [0xFD, 0xCB, u, 0x95]
  | .res2AtIYd => [0xFD, 0xCB, u, 0x96]
  | .ldARes2AtIYd => [0xFD, 0xCB, u, 0x97]
  | .ldBRes3AtIYd => [0xFD, 0xCB, u, 0x98]
  | .ldCRes3AtIYd => [0xFD, 0xCB, u, 0x99]
  | .ldDRes3AtIYd => [0xFD, 0xCB, u, 0x9A]
  | .ldERes3AtIYd => [0xFD, 0xCB, u, 0x9B]
  | .ldHRes3AtIYd => [0xFD, 0xCB, u, 0x9C]
  | .ldLRes3AtIYd => [0xFD, 0xCB, u, 0x9D]
  | .res3AtIYd => [0xFD, 0xCB, u, 0x9E]
  | .ldARes3AtIYd => [0xFD, 0xCB, u, 0x9F]
  | .ldBRes4AtIYd => [0xFD, 0xCB, u, 0xA0]
  | .ldCRes4AtIYd => [0xFD, 0xCB, u, 0xA1]
  | .ldDRes4AtIYd => [0xFD, 0xCB, u, 0xA2]
  | .ldERes4AtIYd => [0xFD, 0xCB, u, 0xA3]
  | .ldHRes4AtIYd => [0xFD, 0xCB, u, 0xA4]
  | .ldLRes4AtIYd => [0xFD, 0xCB, u, 0xA5]
  | .res4AtIYd => [0xFD, 0xCB, u, 0xA6]
  | .ldARes4AtIYd => [0xFD, 0xCB, u, 0xA7]
  | .ldBRes5AtIYd => [0xFD, 0xCB, u, 0xA8]
  | .ldCRes5AtIYd => [0xFD, 0xCB, u, 0xA9]
  | .ldDRes5AtIYd => [0xFD, 0xCB, u, 0xAA]
  | .ldERes5AtIYd => [0xFD, 0xCB, u, 0xAB]
  | .ldHRes5AtIYd => [0xFD, 0xCB, u, 0xAC]
  | .ldLRes5AtIYd => [0xFD, 0xCB, u, 0xAD]
  | .res5AtIYd => [0xFD, 0xCB, u, 0xAE]
  | .ldARes5AtIYd => [0xFD, 0xCB, u, 0xAF]
  | .ldBRes6AtIYd => [0xFD, 0xCB, u, 0xB0]
  | .ldCRes6AtIYd => [0xFD, 0xCB, u, 0xB1]
  | .ldDRes6AtIYd => [0xFD, 0xCB, u, 0xB2]
  | .ldERes6AtIYd => [0xFD, 0xCB, u, 0xB3]
  | .ldHRes6AtIYd => [0xFD, 0xCB, u, 0xB4]
  | .ldLRes6AtIYd => [0xFD, 0xCB, u, 0xB5]
  | .res6AtIYd => [0xFD, 0xCB, u, 0xB6]
  | .ldARes6AtIYd => [0xFD, 0xCB, u, 0xB7]
  | .ldBRes7AtIYd => [0xFD, 0xCB, u, 0xB8]
  | .ldCRes7AtIYd => [0xFD, 0xCB, u, 0xB9]
  | .ldDRes7AtIYd => [0xFD, 0xCB, u, 0xBA]
  | .ldERes7AtIYd => [0xFD, 0xCB, u, 0xBB]
  | .ldHRes7AtIYd => [0xFD, 0xCB, u, 0xBC]
  | .ldLRes7AtIYd => [0xFD, 0xCB, u, 0xBD]
  | .res7AtIYd => [0xFD, 0xCB, u, 0xBE]
  | .ldARes7AtIYd => [0xFD, 0xCB, u, 0xBF]
  | .ldBSet0AtIYd => [0xFD, 0xCB, u, 0xC0]
  | .ldCSet0AtIYd => [0xFD, 0xCB, u, 0xC1]
  | .ldDSet0AtIYd => [0xFD, 0xCB, u, 0xC2]
  | .ldESet0AtIYd => [0xFD, 0xCB, u, 0xC3]
  | .ldHSet0AtIYd => [0xFD, 0xCB, u, 0xC4]
  | .ldLSet0AtIYd => [0xFD, 0xCB, u, 0xC5]
  | .set0AtIYd => [0xFD, 0xCB, u, 0xC6]
  | .ldASet0AtIYd => [0xFD, 0xCB, u, 0xC7]
  | .ldBSet1AtIYd => [0xFD, 0xCB, u, 0xC8]
  | .ldCSet1AtIYd => [0xFD, 0xCB, u, 0xC9]
  | .ldDSet1AtIYd => [0xFD, 0xCB, u, 0xCA]
  | .ldESet1AtIYd => [0xFD, 0xCB, u, 0xCB]
  | .ldHSet1AtIYd => [0xFD, 0xCB, u, 0xCC]
  | .ldLSet1AtIYd => [0xFD, 0xCB, u, 0xCD]
  | .set1AtIYd => [0xFD, 0xCB, u, 0xCE]
  | .ldASet1AtIYd => [0xFD, 0xCB, u, 0xCF]
  | .ldBSet2AtIYd => [0xFD, 0xCB, u, 0xD0]
  | .ldCSet2AtIYd => [0xFD, 0xCB, u, 0xD1]
  | .ldDSet2AtIYd => [0xFD, 0xCB, u, 0xD2]
  | .ldESet2AtIYd => [0xFD, 0xCB, u, 0xD3]
  | .ldHSet2AtIYd => [0xFD, 0xCB, u, 0xD4]
  | .ldLSet2AtIYd => [0xFD, 0xCB, u, 0xD5]
  | .set2AtIYd => [0xFD, 0xCB, u, 0xD6]
  | .ldASet2AtIYd => [0xFD, 0xCB, u, 0xD7]
  | .ldBSet3AtIYd => [0xFD, 0xCB, u, 0xD8]
  | .ldCSet3AtIYd => [0xFD, 0xCB, u, 0xD9]
  | .ldDSet3AtIYd => [0xFD, 0xCB, u, 0xDA]
  | .ldESet3AtIYd => [0xFD, 0xCB, u, 0xDB]
  | .ldHSet3AtIYd => [0xFD, 0xCB, u, 0xDC]
  | .ldLSet3AtIYd => [0xFD, 0xCB, u, 0xDD]
  | .set3AtIYd => [0xFD, 0xCB, u, 0xDE]
  | .ldASet3AtIYd => [0xFD, 0xCB, u, 0xDF]
  | .ldBSet4AtIYd => [0xFD, 0xCB, u, 0xE0]
  | .ldCSet4AtIYd => [0xFD, 0xCB, u, 0xE1]
  | .ldDSet4AtIYd => [0xFD, 0xCB, u, 0xE2]
  | .ldESet4AtIYd => [0xFD, 0xCB, u, 0xE3]
  | .ldHSet4AtIYd => [0xFD, 0xCB, u, 0xE4]
  | .ldLSet4AtIYd => [0xFD, 0xCB, u, 0xE5]
  | .set4AtIYd => [0xFD, 0xCB, u, 0xE6]
  | .ldASet4AtIYd => [0xFD, 0xCB, u, 0xE7]
  | .ldBSet5AtIYd => [0xFD, 0xCB, u, 0xE8]
  | .ldCSet5AtIYd => [0xFD, 0xCB, u, 0xE9]
  | .ldDSet5AtIYd => [0xFD, 0xCB, u, 0xEA]
  | .ldESet5AtIYd => [0xFD, 0xCB, u, 0xEB]
  | .ldHSet5AtIYd => [0xFD, 0xCB, u, 0xEC]
  | .ldLSet5AtIYd => [0xFD, 0xCB, u, 0xED]
  | .set5AtIYd => [0xFD, 0xCB, u, 0xEE]
  | .ldASet5AtIYd => [0xFD, 0xCB, u, 0xEF]
  | .ldBSet6AtIYd => [0xFD, 0xCB, u, 0xF0]
  | .ldCSet6AtIYd => [0xFD, 0xCB, u, 0xF1]
  | .ldDSet6AtIYd => [0xFD, 0xCB, u, 0xF2]
  | .ldESet6AtIYd => [0xFD, 0xCB, u, 0xF3]
  | .ldHSet6AtIYd => [0xFD, 0xCB, u, 0xF4]
  | .ldLSet6AtIYd => [0xFD, 0xCB, u, 0xF5]
  | .set6AtIYd => [0xFD, 0xCB, u, 0xF6]
  | .ldASet6AtIYd => [0xFD, 0xCB, u, 0xF7]
  | .ldBSet7AtIYd => [0xFD, 0xCB, u, 0xF8]
  | .ldCSet7AtIYd => [0xFD, 0xCB, u, 0xF9]
  | .ldDSet7AtIYd => [0xFD, 0xCB, u, 0xFA]
  | .ldESet7AtIYd => [0xFD, 0xCB, u, 0xFB]
  | .ldHSet7AtIYd => [0xFD, 0xCB, u, 0xFC]
  | .ldLSet7AtIYd => [0xFD, 0xCB, u, 0xFD]
  | .set7AtIYd => [0xFD, 0xCB, u, 0xFE]
  | .ldASet7AtIYd => [0xFD, 0xCB, u, 0xFF]

end Sys2Proof
end

