-- ==== Sys2Proof/Machine/Flags.lean ====
section
/-! DEFINITION. The flag tables and the ALU functions, pure, in the table form that 40_alu_tables.md makes
normative (R140 to R166, R168), and the flag formulas of 42, 45 and 46. -/

namespace Sys2Proof.Machine

/-! ## Flag masks (10_state.md R23) -/

/-- Sign. -/
def flagS : Byte := 0x80
/-- Zero. -/
def flagZ : Byte := 0x40
/-- Bit 5. -/
def flag5 : Byte := 0x20
/-- Half-carry. -/
def flagH : Byte := 0x10
/-- Bit 3. -/
def flag3 : Byte := 0x08
/-- Parity/Overflow. -/
def flagPV : Byte := 0x04
/-- Negative. -/
def flagN : Byte := 0x02
/-- Carry. -/
def flagC : Byte := 0x01

/-- `b ? m : 0`. -/
def maskIf (b : Bool) (m : Byte) : Byte := if b then m else 0

/-- Bits 5 and 3 of a byte. -/
def bits53 (v : Byte) : Byte := v &&& 0x28

/-- Bit 3 of a byte at bit 3 and its bit 1 at bit 5 (R417, R418). -/
def bits31 (v : Byte) : Byte := (v &&& flag3) ||| maskIf (v.getLsbD 1) flag5

/-- `F.C` as a bit. -/
def carryOf (f : Byte) : Bool := f.getLsbD 0

/-! ## Tables (R140 to R145) -/

/-- The number of 1 bits. -/
def popcount (v : Byte) : Nat := (List.range 8).countP fun i => v.getLsbD i

/-- `Parity[v]` (R141). -/
def parity (v : Byte) : Byte := maskIf (popcount v % 2 == 0) flagPV

/-- `SZ53[v]` (R142). -/
def sz53 (v : Byte) : Byte := (v &&& 0xA8) ||| maskIf (v == 0) flagZ

/-- `SZ53P[v]` (R143). -/
def sz53p (v : Byte) : Byte := sz53 v ||| parity v

/-- The nibble index of an 8-bit operation (R144). -/
def nibbleIndex (a b t : Byte) : Byte :=
  ((a &&& 0x88) >>> 3) ||| ((b &&& 0x88) >>> 2) ||| ((t &&& 0x88) >>> 1)

/-- The nibble index of a 16-bit operation: bits 11 and 15 of the operands and the result (R144). -/
def nibbleIndex16 (a b t : Word) : Byte :=
  loByte (((a &&& 0x8800) >>> 11) ||| ((b &&& 0x8800) >>> 10) ||| ((t &&& 0x8800) >>> 9))

/-- `HalfCarryAdd[i]` (R145). -/
def halfCarryAdd (i : Byte) : Byte := [0, flagH, flagH, flagH, 0, 0, 0, flagH].getD (i &&& 7).toNat 0

/-- `HalfCarrySub[i]` (R145). -/
def halfCarrySub (i : Byte) : Byte := [0, 0, flagH, 0, flagH, 0, flagH, flagH].getD (i &&& 7).toNat 0

/-- `OverflowAdd[i]` (R145). -/
def overflowAdd (i : Byte) : Byte := [0, 0, 0, flagPV, flagPV, 0, 0, 0].getD (i &&& 7).toNat 0

/-- `OverflowSub[i]` (R145). -/
def overflowSub (i : Byte) : Byte := [0, flagPV, 0, 0, 0, 0, flagPV, 0].getD (i &&& 7).toNat 0

/-! ## 8-bit arithmetic and logic (R146 to R153) -/

/-- The result byte of an operation and the whole of `F` after it. -/
structure AluOut where
  res : Byte
  flags : Byte
  deriving DecidableEq, Repr

/-- `add8` (R146). -/
def add8 (a v : Byte) (cin : Bool) : AluOut :=
  let t : BitVec 9 := a.setWidth 9 + v.setWidth 9 + (BitVec.ofBool cin).setWidth 9
  let r := t.setWidth 8
  let lookup := nibbleIndex a v r
  ⟨r, maskIf (t.getLsbD 8) flagC ||| halfCarryAdd lookup ||| overflowAdd (lookup >>> 4) ||| sz53 r⟩

/-- `sub8` (R147); bit 8 of the 9-bit difference is the borrow. -/
def sub8 (a v : Byte) (cin : Bool) : AluOut :=
  let t : BitVec 9 := a.setWidth 9 - v.setWidth 9 - (BitVec.ofBool cin).setWidth 9
  let r := t.setWidth 8
  let lookup := nibbleIndex a v r
  ⟨r, maskIf (t.getLsbD 8) flagC ||| flagN ||| halfCarrySub lookup ||| overflowSub (lookup >>> 4) ||| sz53 r⟩

/-- The flags of `cp8`: the subtraction's, but bits 5 and 3 from the operand (R148). -/
def cp8 (a v : Byte) : Byte :=
  let t : BitVec 9 := a.setWidth 9 - v.setWidth 9
  let r := t.setWidth 8
  let lookup := nibbleIndex a v r
  maskIf (t.getLsbD 8) flagC ||| maskIf (r == 0) flagZ ||| flagN ||| halfCarrySub lookup
    ||| overflowSub (lookup >>> 4) ||| bits53 v ||| (r &&& flagS)

/-- `and8` (R149). -/
def and8 (a v : Byte) : AluOut := ⟨a &&& v, flagH ||| sz53p (a &&& v)⟩

/-- `xor8` (R150). -/
def xor8 (a v : Byte) : AluOut := ⟨a ^^^ v, sz53p (a ^^^ v)⟩

/-- `or8` (R151). -/
def or8 (a v : Byte) : AluOut := ⟨a ||| v, sz53p (a ||| v)⟩

/-- The eight accumulator operations, in the order of `alu[y]` (R119). -/
inductive AluOp where
  | add | adc | sub | sbc | and | xor | or | cp
  deriving DecidableEq, Repr

/-- The accumulator and the flags after an accumulator operation (R230 to R237). -/
def aluOut (op : AluOp) (a v f : Byte) : AluOut :=
  match op with
  | .add => add8 a v false
  | .adc => add8 a v (carryOf f)
  | .sub => sub8 a v false
  | .sbc => sub8 a v (carryOf f)
  | .and => and8 a v
  | .xor => xor8 a v
  | .or => or8 a v
  | .cp => ⟨a, cp8 a v⟩

/-- `inc8` (R152). -/
def inc8 (v f : Byte) : AluOut :=
  let r := v + 1
  ⟨r, (f &&& flagC) ||| maskIf (r == 0x80) flagPV ||| maskIf (r &&& 0x0F == 0) flagH ||| sz53 r⟩

/-- `dec8` (R153). -/
def dec8 (v f : Byte) : AluOut :=
  let r := v - 1
  ⟨r, (f &&& flagC) ||| maskIf (v &&& 0x0F == 0) flagH ||| flagN ||| maskIf (r == 0x7F) flagPV ||| sz53 r⟩

/-! ## 16-bit arithmetic (R154 to R156) -/

/-- The result word of an operation and the whole of `F` after it. -/
structure AluOut16 where
  res : Word
  flags : Byte
  deriving DecidableEq, Repr

/-- `add16`: `S Z PV` kept, the half-carry table only (R154). -/
def add16 (a b : Word) (f : Byte) : AluOut16 :=
  let t : BitVec 17 := a.setWidth 17 + b.setWidth 17
  let r := t.setWidth 16
  ⟨r, (f &&& (flagS ||| flagZ ||| flagPV)) ||| maskIf (t.getLsbD 16) flagC ||| bits53 (hiByte r)
    ||| halfCarryAdd (nibbleIndex16 a b r)⟩

/-- `adc16` (R155). -/
def adc16 (a b : Word) (f : Byte) : AluOut16 :=
  let t : BitVec 17 := a.setWidth 17 + b.setWidth 17 + (BitVec.ofBool (carryOf f)).setWidth 17
  let r := t.setWidth 16
  let lookup := nibbleIndex16 a b r
  ⟨r, maskIf (t.getLsbD 16) flagC ||| overflowAdd (lookup >>> 4) ||| (hiByte r &&& (flagS ||| flag5 ||| flag3))
    ||| halfCarryAdd lookup ||| maskIf (r == 0) flagZ⟩

/-- `sbc16`; bit 16 of the 17-bit difference is the borrow (R156). -/
def sbc16 (a b : Word) (f : Byte) : AluOut16 :=
  let t : BitVec 17 := a.setWidth 17 - b.setWidth 17 - (BitVec.ofBool (carryOf f)).setWidth 17
  let r := t.setWidth 16
  let lookup := nibbleIndex16 a b r
  ⟨r, maskIf (t.getLsbD 16) flagC ||| flagN ||| overflowSub (lookup >>> 4)
    ||| (hiByte r &&& (flagS ||| flag5 ||| flag3)) ||| halfCarrySub lookup ||| maskIf (r == 0) flagZ⟩

/-! ## Rotates, shifts and bits (R157 to R166) -/

/-- The eight rotates and shifts, in the order of `rot[y]` (R119). -/
inductive RotOp where
  | rlc | rrc | rl | rr | sla | sra | sll | srl
  deriving DecidableEq, Repr

/-- The byte a rotate or shift returns; `c` is the old `F.C` (R157 to R164). -/
def rotRes (op : RotOp) (v : Byte) (c : Bool) : Byte :=
  match op with
  | .rlc => (v <<< 1) ||| (v >>> 7)
  | .rrc => (v >>> 1) ||| (v <<< 7)
  | .rl => (v <<< 1) ||| maskIf c 0x01
  | .rr => (v >>> 1) ||| maskIf c 0x80
  | .sla => v <<< 1
  | .sra => (v &&& (0x80 : Byte)) ||| (v >>> 1)
  | .sll => (v <<< 1) ||| 1
  | .srl => v >>> 1

/-- The bit a rotate or shift moves out (R157 to R164). -/
def rotOut (op : RotOp) (v : Byte) : Bool :=
  match op with
  | .rlc => v.getLsbD 7
  | .rrc => v.getLsbD 0
  | .rl => v.getLsbD 7
  | .rr => v.getLsbD 0
  | .sla => v.getLsbD 7
  | .sra => v.getLsbD 0
  | .sll => v.getLsbD 7
  | .srl => v.getLsbD 0

/-- A rotate or shift of the CB and DDCB tables: `F <- cout | SZ53P[r]`. -/
def rotate (op : RotOp) (v f : Byte) : AluOut :=
  let r := rotRes op v (carryOf f)
  ⟨r, maskIf (rotOut op v) flagC ||| sz53p r⟩

/-- A rotate of the accumulator table: `S Z PV` kept, bits 5 and 3 from the new `A` (R245 to R248). -/
def rotateA (op : RotOp) (a f : Byte) : AluOut :=
  let r := rotRes op a (carryOf f)
  ⟨r, (f &&& (flagS ||| flagZ ||| flagPV)) ||| bits53 r ||| maskIf (rotOut op a) flagC⟩

/-- The flags of `bit(b, v, src53)` (R165). -/
def bitFlags (b : Nat) (v src f : Byte) : Byte :=
  (f &&& flagC) ||| flagH ||| bits53 src ||| maskIf (!v.getLsbD b) (flagPV ||| flagZ)
    ||| maskIf (b == 7 && v.getLsbD 7) flagS

/-- `res(b, v)` (R166). -/
def resBit (b : Nat) (v : Byte) : Byte := v &&& ~~~((1 : Byte) <<< b)

/-- `set(b, v)` (R166). -/
def setBit (b : Nat) (v : Byte) : Byte := v ||| ((1 : Byte) <<< b)

/-! ## Accumulator and flag instructions (42_base_alu.md R249 to R252) -/

/-- `DAA` (R249). -/
def daaOut (a f : Byte) : AluOut :=
  let low : Byte := if f.getLsbD 4 || decide ((a &&& 0x0F).toNat > 9) then 0x06 else 0
  let add : Byte := if carryOf f || decide (a.toNat > 0x99) then low ||| 0x60 else low
  let carry := carryOf f || decide (a.toNat > 0x99)
  let o := if f.getLsbD 1 then sub8 a add false else add8 a add false
  ⟨o.res, (o.flags &&& ~~~(flagC ||| flagPV)) ||| maskIf carry flagC ||| parity o.res⟩

/-- `CPL` (R250). -/
def cplOut (a f : Byte) : AluOut :=
  let r := a ^^^ 0xFF
  ⟨r, (f &&& (flagC ||| flagPV ||| flagZ ||| flagS)) ||| bits53 r ||| flagN ||| flagH⟩

/-- The flags of `SCF`, bits 5 and 3 from `A` alone (R251, D18). -/
def scfFlags (a f : Byte) : Byte := (f &&& (flagPV ||| flagZ ||| flagS)) ||| bits53 a ||| flagC

/-- The flags of `CCF` (R252, D18). -/
def ccfFlags (a f : Byte) : Byte :=
  (f &&& (flagPV ||| flagZ ||| flagS)) ||| (if carryOf f then flagH else flagC) ||| bits53 a

/-! ## ED instructions (45_ed.md R350, R364; 46_ed_block.md R417 to R420) -/

/-- `C` kept, the rest from the byte and its parity (R350, R366). -/
def inFlags (v f : Byte) : Byte := (f &&& flagC) ||| sz53p v

/-- The flags of `LD A,I` and `LD A,R`: `PV` is `iff2` (R364). -/
def ldAIFlags (v f : Byte) (iff2 : Bool) : Byte := (f &&& flagC) ||| sz53 v ||| maskIf iff2 flagPV

/-- The flags of a block transfer: `n` is the byte moved plus `A`, `more` says `BC != 0` (R417). -/
def blockLdFlags (n f : Byte) (more : Bool) : Byte :=
  (f &&& (flagC ||| flagZ ||| flagS)) ||| maskIf more flagPV ||| bits31 n

/-- The flags of a block compare of `A` with `v`; `more` says `BC != 0` (R418). -/
def blockCpFlags (a v f : Byte) (more : Bool) : Byte :=
  let t := a - v
  let half := halfCarrySub (nibbleIndex (a &&& 0x08) (v &&& 0x08) (t &&& 0x08))
  let n := if half &&& flagH != 0 then t - 1 else t
  (f &&& flagC) ||| maskIf more flagPV ||| flagN ||| half ||| maskIf (t == 0) flagZ ||| (t &&& flagS)
    ||| bits31 n

/-- The flags of block input and output: `t` is the byte moved, `x` the byte it is summed with, `b` the
decremented `B` (R419, R420). -/
def blockIoFlags (t x b : Byte) : Byte :=
  let k := t.toNat + x.toNat
  maskIf (t.getLsbD 7) flagN ||| maskIf (decide (k > 0xFF)) (flagH ||| flagC)
    ||| parity (BitVec.ofNat 8 (k % 8) ^^^ b) ||| sz53 b

end Sys2Proof.Machine
end

