-- ==== Sys2Proof/Config.lean ====
section
/-! DEFINITION. What an implementation fixes: the parameters P1 to P11 of 00_scope.md R5, gathered as
plain data in `Platform` (State holds one, no step changes it), and the model's free values. -/

namespace Sys2Proof

/-- The addresses from `lo` to `hi`, both included. -/
structure AddrRange where
  lo : Nat
  hi : Nat
  deriving DecidableEq, Repr

/-- The parameters of 00_scope.md R5. A claim about every state is a claim about every platform. -/
structure Platform where
  /-- P1 `CONTENDED`: the memory and port addresses that lie in contended memory. -/
  contended : List AddrRange
  /-- P2 `CONTENTION_TABLE`: extra wait states at counter values 0, 1, 2, and so on (assumption 5). -/
  contentionTable : List Nat
  /-- P2 past the end of that list: the same wait states at every later value, or, with `none`, a free value at
  each (`Config.contentionBeyondTable`, assumption 5). -/
  contentionRest : Option Nat
  /-- P3, the write policy: addresses where the external subsystem ignores a store. DESIGN CHOICE (assumption
  10): the spec leaves the policy to the platform; here it is these ranges, which only the host call `protect`
  changes. -/
  readOnly : List AddrRange
  /-- P5 `INT_ACK_TSTATES` (R504, D12). -/
  intAckTStates : Nat
  /-- P6 `NMI_ACK_TSTATES` (R506, D13). -/
  nmiAckTStates : Nat
  /-- P7 `ACK_INCREMENTS_R` (R504, R506, D14). -/
  ackIncrementsR : Bool
  /-- P8 `RESET_FILL` (R41, D6). -/
  resetFill : Word
  /-- P9 `OUT_C_0_VALUE`, the byte `ED 71` writes (R353, D21). -/
  outCZeroValue : Byte
  /-- P10 `FRAME_LENGTH`: read by the host's fold of the counter only, by no rule of the core (R67).
  0 means that the counter is not folded (assumption 8). -/
  frameLength : Nat
  /-- P11 `ULA_PORT_CONTENDED` (R70, D22). -/
  ulaPortContended : Bool
  deriving DecidableEq, Repr

/-- The defaults of R5: nothing contended, no wait states at any counter value, all of memory writable. -/
def Platform.default : Platform where
  contended := []
  contentionTable := []
  contentionRest := some 0
  readOnly := []
  intAckTStates := 7
  nmiAckTStates := 5
  ackIncrementsR := true
  resetFill := 0xFFFF
  outCZeroValue := 0x00
  frameLength := 0
  ulaPortContended := false

/-- FREE VALUE: what port `port` answers to the read numbered `n` when the platform has queued no answer
(P4, U6: any value of type `u8`; assumption 6). -/
opaque Config.freePortByte (n : Nat) (port : Word) : Byte

/-- FREE VALUE: the wait states at counter value `c` past the end of the contention table (R67, U2:
the table is total and non-negative; assumption 5). -/
opaque Config.contentionBeyondTable (c : Nat) : Nat

end Sys2Proof
end

