-- ==== Sys2Proof/Machine/State.lean ====
section
/-! DEFINITION. The state of the machine as plain data (10_state.md R20 to R41), what a step can refuse,
and the state after reset (R41). INVENTORY.md lists every field with its rule. -/

namespace Sys2Proof.Machine

/-- The register file (R20), less the shadow bank. A pair is not stored twice: `BC` is the view
`{b, c}` of its halves (R21). `SP`, `PC` and `MEMPTR` have halves that no instruction addresses. -/
structure Regs where
  a : Byte
  f : Byte
  b : Byte
  c : Byte
  d : Byte
  e : Byte
  h : Byte
  l : Byte
  ixh : Byte
  ixl : Byte
  iyh : Byte
  iyl : Byte
  sp : Word
  pc : Word
  i : Byte
  r : Byte
  memptr : Word
  deriving DecidableEq, Repr

/-- The shadow set `AF'`, `BC'`, `DE'`, `HL'` (R20, R24). -/
structure Shadow where
  a : Byte
  f : Byte
  b : Byte
  c : Byte
  d : Byte
  e : Byte
  h : Byte
  l : Byte
  deriving DecidableEq, Repr

/-- `interruptMode`, one of 0, 1, 2; the value 3 is unreachable (R33). -/
inductive IntMode where
  | im0
  | im1
  | im2
  deriving DecidableEq, Repr

/-- Control and hidden state (R31 to R37). -/
structure Control where
  iff1 : Bool
  iff2 : Bool
  interruptMode : IntMode
  halted : Bool
  interruptPending : Bool
  nmiPending : Bool
  eiJustExecuted : Bool
  deriving DecidableEq, Repr

/-- One access as the external subsystem sees it: address, byte, and the counter after the access
(R63, R64, R68, R69). An opcode fetch takes its byte untimed and records nothing (R62, R100). -/
inductive BusEvent where
  | memRead (addr : Word) (value : Byte) (cycles : Int)
  | memWrite (addr : Word) (value : Byte) (cycles : Int)
  | portRead (port : Word) (value : Byte) (cycles : Int)
  | portWrite (port : Word) (value : Byte) (cycles : Int)
  deriving DecidableEq, Repr

/-- The 65,536-byte memory (R60, P3): the bytes that differ from `unlistedByte`, addresses strictly
rising. -/
abbrev Memory := List Host.Cell

/-- What an address that no cell lists reads as. DESIGN CHOICE (assumption 3): the spec gives memory no
reset contents. -/
def unlistedByte : Byte := 0x00

/-- The state of the machine. -/
structure State where
  /-- The register file (R20 to R30). -/
  regs : Regs
  /-- The shadow bank (R24). -/
  shadow : Shadow
  /-- Flip-flops, mode, halt and latches (R31 to R37). -/
  ctl : Control
  /-- The T-state counter, an `i64` the host owns and the core advances (R38). -/
  cycles : Int
  /-- Memory as the external subsystem presents it (R60, P3). -/
  mem : Memory
  /-- The accesses made so far, the latest first (R63, R64, R68, R69). -/
  bus : List BusEvent
  /-- The answers the platform has queued for the next port reads, the next one first (P4, R68). -/
  portAnswers : List Byte
  /-- The model's own counter of port reads: the argument of the free port bytes (assumption 6). -/
  portReads : Nat
  /-- The parameters P1 to P11; no step changes them (R5, R67). -/
  platform : Platform
  deriving DecidableEq, Repr

/-- This hardware has no fault: no instruction and no access can fail (R7, R513, and the last line of
93_implementation_defined.md section 1). The type has no constructor. -/
inductive Fault where
  deriving DecidableEq, Repr

/-- Why the model gives no next state. -/
inductive Refusal where
  /-- Raised by an arm of `exec` that has no meaning yet (none has). Safe. -/
  | notModelled (mnemonic : String)
  /-- Raised by `step` when the counter it is called with is negative or beyond `i64`: the
  precondition R7, R512, U1, D24. Safe. -/
  | counterOutOfRange
  /-- Raised by `step` when its accesses carry the counter to 2^63 or beyond (U3, D24). Safe. -/
  | counterOverflow
  /-- Raised by `step` after 65,536 prefix fetches with no instruction (R455, U16). Safe. -/
  | prefixChainTooLong
  /-- Raised by the host call that writes `interruptMode` outside 0, 1, 2 (R33, U14). Safe. -/
  | badInterruptMode
  deriving DecidableEq, Repr

/-- `RESET_FILL` in each half of a pair. -/
def Regs.filled (fill : Word) : Regs :=
  let h := fill.extractLsb' 8 8
  let l := fill.extractLsb' 0 8
  { a := h, f := l, b := h, c := l, d := h, e := l, h := h, l := l,
    ixh := h, ixl := l, iyh := h, iyl := l,
    sp := fill, pc := 0x0000, i := 0x00, r := 0x00, memptr := 0x0000 }

/-- The shadow bank at `RESET_FILL`. -/
def Shadow.filled (fill : Word) : Shadow :=
  let h := fill.extractLsb' 8 8
  let l := fill.extractLsb' 0 8
  { a := h, f := l, b := h, c := l, d := h, e := l, h := h, l := l }

/-- The control cells after reset (R41). -/
def Control.afterReset : Control where
  iff1 := false
  iff2 := false
  interruptMode := .im0
  halted := false
  interruptPending := false
  nmiPending := false
  eiJustExecuted := false

/-- The machine right after reset (R41, R540) on the default platform, with memory unlisted, nothing
recorded and the counter at 0 (assumptions 1, 2, 3 and 4). -/
def State.reset : State where
  regs := Regs.filled Platform.default.resetFill
  shadow := Shadow.filled Platform.default.resetFill
  ctl := Control.afterReset
  cycles := 0
  mem := []
  bus := []
  portAnswers := []
  portReads := 0
  platform := Platform.default

end Sys2Proof.Machine
end

