-- ==== Sys2Proof/Machine/Timing.lean ====
section
/-! DEFINITION. The T-state counter: contention of memory and port accesses (20_memory.md R66, R67, R70). -/

namespace Sys2Proof.Machine

/-- Whether `addr` lies in one of `ranges`. -/
def inRanges (ranges : List AddrRange) (addr : Word) : Bool :=
  ranges.any fun r => decide (r.lo ≤ addr.toNat ∧ addr.toNat ≤ r.hi)

end Sys2Proof.Machine

namespace Sys2Proof

open Machine

/-- `CONTENDED(addr)` (P1). -/
def Platform.isContended (p : Platform) (addr : Word) : Bool := inRanges p.contended addr

/-- Whether the external subsystem ignores a store to `addr` (P3, R64). -/
def Platform.isReadOnly (p : Platform) (addr : Word) : Bool := inRanges p.readOnly addr

/-- `CONTENTION_TABLE(c)` (P2, R67). -/
def Platform.waitStates (p : Platform) (c : Int) : Nat :=
  match p.contentionTable[c.toNat]? with
  | some w => w
  | none => p.contentionRest.getD (Config.contentionBeyondTable c.toNat)

/-- `count` contended units of `delay` T-states from counter value `c`: the table is looked up again
after each unit (R66, R546). -/
def Platform.contendedUnits (p : Platform) (delay : Nat) : Nat → Int → Int
  | 0, c => c
  | k + 1, c => p.contendedUnits delay k (c + p.waitStates c + delay)

/-- The counter after `Contend(addr, delay, count)` entered at `c` (R66). -/
def Platform.afterContend (p : Platform) (addr : Word) (delay count : Nat) (c : Int) : Int :=
  if p.isContended addr then p.contendedUnits delay count c else c + delay * count

/-- The counter after the early phase of a port access, 1 T-state (R70). -/
def Platform.afterPortEarly (p : Platform) (port : Word) (c : Int) : Int :=
  p.afterContend port 1 1 c

/-- The counter after the late phase of a port access, 3 T-states (R70). -/
def Platform.afterPortLate (p : Platform) (port : Word) (c : Int) : Int :=
  if port.getLsbD 0 then p.afterContend port 1 3 c
  else if p.isContended port || p.ulaPortContended then p.contendedUnits 3 1 c
  else c + 3

/-- The counter after `IoTime(port)` entered at `c` (R70). -/
def Platform.afterPort (p : Platform) (port : Word) (c : Int) : Int :=
  p.afterPortLate port (p.afterPortEarly port c)

end Sys2Proof
end

