-- ==== Sys2Proof/Machine/Ops.lean ====
section
/-! DEFINITION. The named operations over memory, registers and the bus that every meaning is written in
(00_scope.md R11), taking an interrupt as one shared operation (60_exceptions.md R504 to R507) and the
return from one (45_ed.md R359, R360). -/

namespace Sys2Proof.Machine

/-- What a meaning answers. -/
abbrev Outcome := Host.Outcome State Fault Refusal

/-! ## Memory (20_memory.md R60, R63, R64) -/

/-- The byte at address `a`. -/
def Memory.read : Memory → Nat → Byte
  | [], _ => unlistedByte
  | (k, v) :: m, a => if a = k then v else Memory.read m a

/-- The cell list for byte `v` at `a`: none where `a` reads as `v` unlisted. -/
def Memory.cell (a : Nat) (v : Byte) : Memory := if v = unlistedByte then [] else [(a, v)]

/-- Store byte `v` at address `a`, keeping the canonical form. -/
def Memory.write : Memory → Nat → Byte → Memory
  | [], a, v => Memory.cell a v
  | (k, w) :: m, a, v =>
    if a < k then Memory.cell a v ++ (k, w) :: m
    else if a = k then Memory.cell a v ++ m
    else (k, w) :: Memory.write m a v

/-- The canonical form of the cells above address `lo`: addresses strictly rising from `lo` and below
65,536, and no cell equal to what an unlisted address reads as. -/
def Memory.wfFrom : Nat → Memory → Bool
  | _, [] => true
  | lo, (k, v) :: m =>
    decide (lo ≤ k) && decide (k < 65536) && decide (v ≠ unlistedByte) && Memory.wfFrom (k + 1) m

/-- The canonical form of a memory. -/
def Memory.wf (m : Memory) : Bool := Memory.wfFrom 0 m

/-! ## Registers (10_state.md R20, R21) -/

/-- The 8-bit registers an instruction or the host can name. -/
inductive Reg8 where
  | a | f | b | c | d | e | h | l | ixh | ixl | iyh | iyl | i | r
  deriving DecidableEq, Repr

/-- The 16-bit views an instruction or the host can name. -/
inductive Reg16 where
  | af | bc | de | hl | ix | iy | sp
  deriving DecidableEq, Repr

/-- Read an 8-bit register. -/
def Regs.get8 (g : Regs) : Reg8 → Byte
  | .a => g.a
  | .f => g.f
  | .b => g.b
  | .c => g.c
  | .d => g.d
  | .e => g.e
  | .h => g.h
  | .l => g.l
  | .ixh => g.ixh
  | .ixl => g.ixl
  | .iyh => g.iyh
  | .iyl => g.iyl
  | .i => g.i
  | .r => g.r

/-- Write an 8-bit register. -/
def Regs.set8 (g : Regs) (x : Reg8) (v : Byte) : Regs :=
  match x with
  | .a => { g with a := v }
  | .f => { g with f := v }
  | .b => { g with b := v }
  | .c => { g with c := v }
  | .d => { g with d := v }
  | .e => { g with e := v }
  | .h => { g with h := v }
  | .l => { g with l := v }
  | .ixh => { g with ixh := v }
  | .ixl => { g with ixl := v }
  | .iyh => { g with iyh := v }
  | .iyl => { g with iyl := v }
  | .i => { g with i := v }
  | .r => { g with r := v }

/-- Read a pair: the high half in bits 15:8 (R21). -/
def Regs.get16 (g : Regs) : Reg16 → Word
  | .af => mkWord g.a g.f
  | .bc => mkWord g.b g.c
  | .de => mkWord g.d g.e
  | .hl => mkWord g.h g.l
  | .ix => mkWord g.ixh g.ixl
  | .iy => mkWord g.iyh g.iyl
  | .sp => g.sp

/-- Write a pair, which writes both halves (R21). -/
def Regs.set16 (g : Regs) (p : Reg16) (w : Word) : Regs :=
  match p with
  | .af => { g with a := hiByte w, f := loByte w }
  | .bc => { g with b := hiByte w, c := loByte w }
  | .de => { g with d := hiByte w, e := loByte w }
  | .hl => { g with h := hiByte w, l := loByte w }
  | .ix => { g with ixh := hiByte w, ixl := loByte w }
  | .iy => { g with iyh := hiByte w, iyl := loByte w }
  | .sp => { g with sp := w }

/-- Read an 8-bit register of the state. -/
def State.reg8 (s : State) (x : Reg8) : Byte := s.regs.get8 x

/-- Write an 8-bit register of the state. -/
def State.setReg8 (s : State) (x : Reg8) (v : Byte) : State := { s with regs := s.regs.set8 x v }

/-- Read a pair of the state. -/
def State.reg16 (s : State) (p : Reg16) : Word := s.regs.get16 p

/-- Write a pair of the state. -/
def State.setReg16 (s : State) (p : Reg16) (w : Word) : State := { s with regs := s.regs.set16 p w }

/-- Write `A`. -/
def State.setA (s : State) (v : Byte) : State := { s with regs := { s.regs with a := v } }

/-- Write `F`. -/
def State.setF (s : State) (v : Byte) : State := { s with regs := { s.regs with f := v } }

/-- Write `PC`. -/
def State.setPc (s : State) (w : Word) : State := { s with regs := { s.regs with pc := w } }

/-- Write `SP`. -/
def State.setSp (s : State) (w : Word) : State := { s with regs := { s.regs with sp := w } }

/-- Write `MEMPTR`. -/
def State.setMemptr (s : State) (w : Word) : State := { s with regs := { s.regs with memptr := w } }

/-- Write the control cells. -/
def State.setCtl (s : State) (c : Control) : State := { s with ctl := c }

/-- Write the shadow bank. -/
def State.setShadow (s : State) (h : Shadow) : State := { s with shadow := h }

/-- The pair `IR` (R20). -/
def State.ir (s : State) : Word := mkWord s.regs.i s.regs.r

/-! ## The bus (20_memory.md R63 to R70) -/

/-- `Contend(addr, delay, count)`: time only (R66). -/
def State.contend (s : State) (addr : Word) (delay count : Nat) : State :=
  { s with cycles := s.platform.afterContend addr delay count s.cycles }

/-- A fixed cost in T-states, not routed through `Contend` (R504). -/
def State.spend (s : State) (tstates : Nat) : State := { s with cycles := s.cycles + tstates }

/-- Note an access for the external subsystem (R63, R64, R68, R69). -/
def State.record (s : State) (e : BusEvent) : State := { s with bus := e :: s.bus }

/-- The byte the external subsystem presents at `a`, with no time and no trace (R62). -/
def State.peek (s : State) (a : Word) : Byte := s.mem.read a.toNat

/-- The word at `a`, low byte at `a`, high byte at `a + 1` modulo 65536 (R65, R71). -/
def State.peek16 (s : State) (a : Word) : Word := mkWord (s.peek (a + 1)) (s.peek a)

/-- Store a byte where the platform lets a store land, with no time and no trace (R64, P3). -/
def State.poke (s : State) (a : Word) (v : Byte) : State :=
  { s with mem := if s.platform.isReadOnly a then s.mem else s.mem.write a.toNat v }

/-- The effect of `MemRead(a, 1)`; the value read is `s.peek a` (R63). -/
def State.memRead (s : State) (a : Word) : State :=
  let t := s.contend a 3 1
  t.record (.memRead a (s.peek a) t.cycles)

/-- `MemWrite(a, 1, v)`: the time is charged before the byte moves (R64). -/
def State.memWrite (s : State) (a : Word) (v : Byte) : State :=
  let t := s.contend a 3 1
  (t.poke a v).record (.memWrite a v t.cycles)

/-- The effect of `MemRead(a, 2)`, low byte first; the value read is `s.peek16 a` (R65). -/
def State.memRead16 (s : State) (a : Word) : State := (s.memRead a).memRead (a + 1)

/-- `MemWrite(a, 2, w)`, low byte first (R65). -/
def State.memWrite16 (s : State) (a : Word) (w : Word) : State :=
  (s.memWrite a (loByte w)).memWrite (a + 1) (hiByte w)

/-- `IoTime(port)` (R70). -/
def State.portTime (s : State) (port : Word) : State :=
  { s with cycles := s.platform.afterPort port s.cycles }

/-- The byte the next read of `port` is answered with: the platform's next queued answer, else a free
value (R68, P4, U6, assumption 6). -/
def State.portByte (s : State) (port : Word) : Byte :=
  match s.portAnswers with
  | v :: _ => v
  | [] => Config.freePortByte s.portReads port

/-- The effect of `IoRead(port)`; the value read is `s.portByte port` (R68). -/
def State.portRead (s : State) (port : Word) : State :=
  let t := s.portTime port
  { t with
    portAnswers := s.portAnswers.tail
    portReads := s.portReads + 1
    bus := .portRead port (s.portByte port) t.cycles :: s.bus }

/-- `IoWrite(port, v)` (R69). -/
def State.portWrite (s : State) (port : Word) (v : Byte) : State :=
  let t := s.portTime port
  t.record (.portWrite port v t.cycles)

/-! ## Fetch and immediates (30_encoding.md R100, R108) -/

/-- `(R & 0x80) | ((R + 1) & 0x7F)` (R29). -/
def nextR (r : Byte) : Byte := (r &&& 0x80) ||| ((r + 1) &&& 0x7F)

/-- One increment of the refresh counter. -/
def State.refresh (s : State) : State := { s with regs := { s.regs with r := nextR s.regs.r } }

/-- `PC <- PC + 1`. -/
def State.advance (s : State) : State := s.setPc (s.regs.pc + 1)

/-- The effect of `Fetch()`: 4 T-states at `PC`, `PC + 1`, `R + 1` (R100). -/
def State.fetch (s : State) : State := ((s.contend s.regs.pc 4 1).advance).refresh

/-- The two fetches of a prefixed opcode (R101). -/
def State.fetch2 (s : State) : State := s.fetch.fetch

/-- The operand byte at `PC`, the value of `Imm8()` (R108). -/
def State.operand (s : State) : Byte := s.peek s.regs.pc

/-- The operand word at `PC`, low byte first, the value of `Imm16()` (R108). -/
def State.operand16 (s : State) : Word := s.peek16 s.regs.pc

/-- Reading the operand byte at `PC`, which does not move: 3 T-states, `R` unchanged (R108). -/
def State.operandRead (s : State) : State := s.memRead s.regs.pc

/-- The effect of `Imm8()`; the value is `s.operand` (R108). -/
def State.imm8 (s : State) : State := s.operandRead.advance

/-- The effect of `Imm16()`; the value is `s.operand16` (R108). -/
def State.imm16 (s : State) : State := s.imm8.imm8

/-! ## The stack (41_base_load_exchange.md R180, R181) -/

/-- `Push16(w)`: the high byte at `SP - 1` first, then the low byte at `SP - 2` (R180). -/
def State.push16 (s : State) (w : Word) : State :=
  let t := (s.setSp (s.regs.sp - 1)).memWrite (s.regs.sp - 1) (hiByte w)
  (t.setSp (s.regs.sp - 2)).memWrite (s.regs.sp - 2) (loByte w)

/-- The word `Pop16()` returns. -/
def State.top16 (s : State) : Word := s.peek16 s.regs.sp

/-- The effect of `Pop16()`; the value is `s.top16` (R181). -/
def State.pop16 (s : State) : State :=
  let t := (s.memRead s.regs.sp).setSp (s.regs.sp + 1)
  (t.memRead (s.regs.sp + 1)).setSp (s.regs.sp + 2)

/-! ## Taking an interrupt and returning from one (60_exceptions.md R504 to R508) -/

/-- Leave the halted state: `PC` moves past the `HALT` byte (R510). -/
def State.leaveHalt (s : State) : State :=
  if s.ctl.halted then s.advance.setCtl { s.ctl with halted := false } else s

/-- The refresh increment of an acknowledge cycle (P7, R504, R506). -/
def State.ackRefresh (s : State) : State :=
  if s.platform.ackIncrementsR then s.refresh else s

/-- Where an acceptance sends the program counter. -/
inductive Vector where
  /-- A fixed address. -/
  | fixed (addr : Word)
  /-- The word in memory at an address. -/
  | indirect (addr : Word)
  deriving DecidableEq, Repr

/-- The handler's address. -/
def Vector.target (v : Vector) (s : State) : Word :=
  match v with
  | .fixed addr => addr
  | .indirect addr => s.peek16 addr

/-- The bus cycles that read it. -/
def Vector.bus (v : Vector) (s : State) : State :=
  match v with
  | .fixed _ => s
  | .indirect addr => s.memRead16 addr

/-- Taking an interrupt, once the latch and the flip-flops are settled: leave the halted state, count the
acknowledge cycle in `R`, push `PC`, load `PC` from the vector, add the fixed cost, set
`MEMPTR = PC` (R504, R506, R507). -/
def State.takeInterrupt (s : State) (v : Vector) (cost : Nat) : State :=
  let p := s.leaveHalt.ackRefresh
  let q := p.push16 p.regs.pc
  let target := v.target q
  let t := v.bus q
  ((t.setPc target).setMemptr target).spend cost

/-- The vector of a maskable interrupt (R504, R505). -/
def State.intVector (s : State) : Vector :=
  match s.ctl.interruptMode with
  | .im0 => .fixed 0x0038
  | .im1 => .fixed 0x0038
  | .im2 => .indirect (mkWord s.regs.i 0xFF)

/-- `AcceptINT()` (R504). -/
def State.acceptInt (s : State) : State :=
  (s.setCtl { s.ctl with interruptPending := false, iff1 := false, iff2 := false }).takeInterrupt
    s.intVector s.platform.intAckTStates

/-- `AcceptNMI()` (R506): `iff2` is kept. -/
def State.acceptNmi (s : State) : State :=
  (s.setCtl { s.ctl with nmiPending := false, iff1 := false }).takeInterrupt
    (.fixed 0x0066) s.platform.nmiAckTStates

/-- The return of `RET`, `RETN` and `RETI`: `PC <- Pop16(); MEMPTR <- PC` (R289, R359). -/
def State.returnToCaller (s : State) : State := (s.pop16.setPc s.top16).setMemptr s.top16

/-- The return from an interrupt: `iff1 <- iff2`, then the return (R359, R360, R508). -/
def State.returnFromInterrupt (s : State) : State :=
  (s.setCtl { s.ctl with iff1 := s.ctl.iff2 }).returnToCaller

end Sys2Proof.Machine
end

