-- ==== Sys2Proof/Machine/Operands.lean ====
section
/-! DEFINITION. Operand forms: the tables of 30_encoding.md R104 to R107, the index registers of 47_ddfd.md
R430 and their effective address R431, and the jump displacement of R109. -/

namespace Sys2Proof.Machine

/-- The conditions `cc[y]` (R107). -/
inductive Cond where
  | nz | z | nc | c | po | pe | p | m
  deriving DecidableEq, Repr

/-- When a condition is true of `F` (R107). -/
def Cond.holds (cc : Cond) (f : Byte) : Bool :=
  match cc with
  | .nz => !f.getLsbD 6
  | .z => f.getLsbD 6
  | .nc => !f.getLsbD 0
  | .c => f.getLsbD 0
  | .po => !f.getLsbD 2
  | .pe => f.getLsbD 2
  | .p => !f.getLsbD 7
  | .m => f.getLsbD 7

/-- `r8[i]` for `i != 6` (R104); entry 6, the byte at `HL`, is no register. -/
def r8 (i : Nat) : Option Reg8 :=
  [some .b, some .c, some .d, some .e, some .h, some .l, none, some .a].getD i none

/-- `rp[p]` (R105). -/
def rp (p : Nat) : Reg16 := [.bc, .de, .hl, .sp].getD p .sp

/-- `rp2[p]` (R106). -/
def rp2 (p : Nat) : Reg16 := [.bc, .de, .hl, .af].getD p .af

/-- `cc[y]` (R107). -/
def ccOf (y : Nat) : Cond := [.nz, .z, .nc, .c, .po, .pe, .p, .m].getD y .m

/-- `alu[y]` (R119). -/
def aluOf (y : Nat) : AluOp := [.add, .adc, .sub, .sbc, .and, .xor, .or, .cp].getD y .cp

/-- `rot[y]` (R119). -/
def rotOf (y : Nat) : RotOp := [.rlc, .rrc, .rl, .rr, .sla, .sra, .sll, .srl].getD y .srl

/-- The index register a prefix selects (R430). -/
def idxReg : Idx → Reg16
  | .ix => .ix
  | .iy => .iy

/-- `ii + sext_16(d)` modulo 65536, `d` the displacement byte at `PC` (R109, R431). -/
def State.indexed (s : State) (ii : Idx) : Word := s.reg16 (idxReg ii) + signExt s.operand

/-- The effect of `EA()`; the address is `s.indexed ii` (R431). -/
def State.effectiveAddress (s : State) (ii : Idx) : State :=
  ((s.operandRead.contend s.regs.pc 1 5).advance).setMemptr (s.indexed ii)

/-- The operand fetch of `pp CB d op`: `d`, then `op`, then the byte at the address; `R` unchanged
(R490). -/
def State.indexedCbOperand (s : State) (ii : Idx) : State :=
  let t := s.imm8
  let u := ((t.operandRead.contend t.regs.pc 1 2).advance).setMemptr (s.indexed ii)
  (u.memRead (s.indexed ii)).contend (s.indexed ii) 1 1

/-- The direction of a block instruction. -/
inductive Dir where
  | up
  | down
  deriving DecidableEq, Repr

/-- `dir` as a 16-bit step. -/
def Dir.step : Dir → Word
  | .up => 1
  | .down => 0xFFFF

/-- `dir` as an 8-bit step. -/
def Dir.step8 : Dir → Byte
  | .up => 1
  | .down => 0xFF

end Sys2Proof.Machine
end

