-- ==== Sys2Proof/Machine/Arith.lean ====
section
/-! DEFINITION. Base-table arithmetic and logic (42_base_alu.md R230 to R252). The register, pair and
accumulator operations also serve lists P and H of the index instructions (R432 to R447). -/

namespace Sys2Proof.Machine

/-! ## Shared operations -/

/-- The `y`-th accumulator operation on the byte `v` (R230 to R237). -/
def accumulate (op : AluOp) (v : Byte) (s : State) : State :=
  let o := aluOut op s.regs.a v s.regs.f
  (s.setA o.res).setF o.flags

/-- An accumulator operation on a register. -/
def aluReg (op : AluOp) (x : Reg8) (s : State) : State := accumulate op (s.reg8 x) s

/-- An accumulator operation on the byte at `HL`. -/
def aluMem (op : AluOp) (s : State) : State :=
  accumulate op (s.peek (s.reg16 .hl)) (s.memRead (s.reg16 .hl))

/-- An accumulator operation on an immediate byte. -/
def aluImm (op : AluOp) (s : State) : State := accumulate op s.operand s.imm8

/-- `r8[y] <- inc8(r8[y])` (R238, R438). -/
def incReg (x : Reg8) (s : State) : State :=
  let o := inc8 (s.reg8 x) s.regs.f
  (s.setReg8 x o.res).setF o.flags

/-- `r8[y] <- dec8(r8[y])` (R240, R439). -/
def decReg (x : Reg8) (s : State) : State :=
  let o := dec8 (s.reg8 x) s.regs.f
  (s.setReg8 x o.res).setF o.flags

/-- `v <- MemRead(a, 1); Contend(a, 1, 1); MemWrite(a, 1, res)`, then `F` (R239, R241, R330, R441). -/
def modifyMem (a : Word) (o : AluOut) (s : State) : State :=
  (((s.memRead a).contend a 1 1).memWrite a o.res).setF o.flags

/-- `INC (HL)` (R239). -/
def incMem (s : State) : State :=
  modifyMem (s.reg16 .hl) (inc8 (s.peek (s.reg16 .hl)) s.regs.f) s

/-- `DEC (HL)` (R241). -/
def decMem (s : State) : State :=
  modifyMem (s.reg16 .hl) (dec8 (s.peek (s.reg16 .hl)) s.regs.f) s

/-- `Contend(IR, 1, 2); rp[p] <- rp[p] + 1` (R242, R436). -/
def incPair (p : Reg16) (s : State) : State := (s.contend s.ir 1 2).setReg16 p (s.reg16 p + 1)

/-- `Contend(IR, 1, 2); rp[p] <- rp[p] - 1` (R243, R437). -/
def decPair (p : Reg16) (s : State) : State := (s.contend s.ir 1 2).setReg16 p (s.reg16 p - 1)

/-- `Contend(IR, 1, 7); dst <- add16(dst, src); MEMPTR <- old dst + 1` (R244, R432, R154). -/
def addPair (dst src : Reg16) (s : State) : State :=
  let o := add16 (s.reg16 dst) (s.reg16 src) s.regs.f
  (((s.contend s.ir 1 7).setMemptr (s.reg16 dst + 1)).setF o.flags).setReg16 dst o.res

/-- The accumulator rotates (R245 to R248). -/
def rotAcc (op : RotOp) (s : State) : State :=
  let o := rotateA op s.regs.a s.regs.f
  (s.setA o.res).setF o.flags

/-- `DAA` (R249). -/
def daa (s : State) : State :=
  let o := daaOut s.regs.a s.regs.f
  (s.setA o.res).setF o.flags

/-- `CPL` (R250). -/
def cpl (s : State) : State :=
  let o := cplOut s.regs.a s.regs.f
  (s.setA o.res).setF o.flags

/-- `SCF` (R251). -/
def scf (s : State) : State := s.setF (scfFlags s.regs.a s.regs.f)

/-- `CCF` (R252). -/
def ccf (s : State) : State := s.setF (ccfFlags s.regs.a s.regs.f)

/-! ## The instructions -/

/-- `INC BC` (03), R242. -/
def execIncBC (s : State) : Outcome := .next (incPair .bc s.fetch)

/-- `INC B` (04), R238. -/
def execIncB (s : State) : Outcome := .next (incReg .b s.fetch)

/-- `DEC B` (05), R240. -/
def execDecB (s : State) : Outcome := .next (decReg .b s.fetch)

/-- `RLCA` (07), R245. -/
def execRlca (s : State) : Outcome := .next (rotAcc .rlc s.fetch)

/-- `ADD HL,BC` (09), R244. -/
def execAddHLBC (s : State) : Outcome := .next (addPair .hl .bc s.fetch)

/-- `DEC BC` (0B), R243. -/
def execDecBC (s : State) : Outcome := .next (decPair .bc s.fetch)

/-- `INC C` (0C), R238. -/
def execIncC (s : State) : Outcome := .next (incReg .c s.fetch)

/-- `DEC C` (0D), R240. -/
def execDecC (s : State) : Outcome := .next (decReg .c s.fetch)

/-- `RRCA` (0F), R246. -/
def execRrca (s : State) : Outcome := .next (rotAcc .rrc s.fetch)

/-- `INC DE` (13), R242. -/
def execIncDE (s : State) : Outcome := .next (incPair .de s.fetch)

/-- `INC D` (14), R238. -/
def execIncD (s : State) : Outcome := .next (incReg .d s.fetch)

/-- `DEC D` (15), R240. -/
def execDecD (s : State) : Outcome := .next (decReg .d s.fetch)

/-- `RLA` (17), R247. -/
def execRla (s : State) : Outcome := .next (rotAcc .rl s.fetch)

/-- `ADD HL,DE` (19), R244. -/
def execAddHLDE (s : State) : Outcome := .next (addPair .hl .de s.fetch)

/-- `DEC DE` (1B), R243. -/
def execDecDE (s : State) : Outcome := .next (decPair .de s.fetch)

/-- `INC E` (1C), R238. -/
def execIncE (s : State) : Outcome := .next (incReg .e s.fetch)

/-- `DEC E` (1D), R240. -/
def execDecE (s : State) : Outcome := .next (decReg .e s.fetch)

/-- `RRA` (1F), R248. -/
def execRra (s : State) : Outcome := .next (rotAcc .rr s.fetch)

/-- `INC HL` (23), R242. -/
def execIncHL (s : State) : Outcome := .next (incPair .hl s.fetch)

/-- `INC H` (24), R238. -/
def execIncH (s : State) : Outcome := .next (incReg .h s.fetch)

/-- `DEC H` (25), R240. -/
def execDecH (s : State) : Outcome := .next (decReg .h s.fetch)

/-- `DAA` (27), R249. -/
def execDaa (s : State) : Outcome := .next (daa s.fetch)

/-- `ADD HL,HL` (29), R244. -/
def execAddHLHL (s : State) : Outcome := .next (addPair .hl .hl s.fetch)

/-- `DEC HL` (2B), R243. -/
def execDecHL (s : State) : Outcome := .next (decPair .hl s.fetch)

/-- `INC L` (2C), R238. -/
def execIncL (s : State) : Outcome := .next (incReg .l s.fetch)

/-- `DEC L` (2D), R240. -/
def execDecL (s : State) : Outcome := .next (decReg .l s.fetch)

/-- `CPL` (2F), R250. -/
def execCpl (s : State) : Outcome := .next (cpl s.fetch)

/-- `INC SP` (33), R242. -/
def execIncSP (s : State) : Outcome := .next (incPair .sp s.fetch)

/-- `INC (HL)` (34), R239. -/
def execIncAtHL (s : State) : Outcome := .next (incMem s.fetch)

/-- `DEC (HL)` (35), R241. -/
def execDecAtHL (s : State) : Outcome := .next (decMem s.fetch)

/-- `SCF` (37), R251. -/
def execScf (s : State) : Outcome := .next (scf s.fetch)

/-- `ADD HL,SP` (39), R244. -/
def execAddHLSP (s : State) : Outcome := .next (addPair .hl .sp s.fetch)

/-- `DEC SP` (3B), R243. -/
def execDecSP (s : State) : Outcome := .next (decPair .sp s.fetch)

/-- `INC A` (3C), R238. -/
def execIncA (s : State) : Outcome := .next (incReg .a s.fetch)

/-- `DEC A` (3D), R240. -/
def execDecA (s : State) : Outcome := .next (decReg .a s.fetch)

/-- `CCF` (3F), R252. -/
def execCcf (s : State) : Outcome := .next (ccf s.fetch)

/-- `ADD A,B` (80), R230. -/
def execAddAB (s : State) : Outcome := .next (aluReg .add .b s.fetch)

/-- `ADD A,C` (81), R230. -/
def execAddAC (s : State) : Outcome := .next (aluReg .add .c s.fetch)

/-- `ADD A,D` (82), R230. -/
def execAddAD (s : State) : Outcome := .next (aluReg .add .d s.fetch)

/-- `ADD A,E` (83), R230. -/
def execAddAE (s : State) : Outcome := .next (aluReg .add .e s.fetch)

/-- `ADD A,H` (84), R230. -/
def execAddAH (s : State) : Outcome := .next (aluReg .add .h s.fetch)

/-- `ADD A,L` (85), R230. -/
def execAddAL (s : State) : Outcome := .next (aluReg .add .l s.fetch)

/-- `ADD A,(HL)` (86), R230. -/
def execAddAAtHL (s : State) : Outcome := .next (aluMem .add s.fetch)

/-- `ADD A,A` (87), R230. -/
def execAddAA (s : State) : Outcome := .next (aluReg .add .a s.fetch)

/-- `ADC A,B` (88), R231. -/
def execAdcAB (s : State) : Outcome := .next (aluReg .adc .b s.fetch)

/-- `ADC A,C` (89), R231. -/
def execAdcAC (s : State) : Outcome := .next (aluReg .adc .c s.fetch)

/-- `ADC A,D` (8A), R231. -/
def execAdcAD (s : State) : Outcome := .next (aluReg .adc .d s.fetch)

/-- `ADC A,E` (8B), R231. -/
def execAdcAE (s : State) : Outcome := .next (aluReg .adc .e s.fetch)

/-- `ADC A,H` (8C), R231. -/
def execAdcAH (s : State) : Outcome := .next (aluReg .adc .h s.fetch)

/-- `ADC A,L` (8D), R231. -/
def execAdcAL (s : State) : Outcome := .next (aluReg .adc .l s.fetch)

/-- `ADC A,(HL)` (8E), R231. -/
def execAdcAAtHL (s : State) : Outcome := .next (aluMem .adc s.fetch)

/-- `ADC A,A` (8F), R231. -/
def execAdcAA (s : State) : Outcome := .next (aluReg .adc .a s.fetch)

/-- `SUB B` (90), R232. -/
def execSubB (s : State) : Outcome := .next (aluReg .sub .b s.fetch)

/-- `SUB C` (91), R232. -/
def execSubC (s : State) : Outcome := .next (aluReg .sub .c s.fetch)

/-- `SUB D` (92), R232. -/
def execSubD (s : State) : Outcome := .next (aluReg .sub .d s.fetch)

/-- `SUB E` (93), R232. -/
def execSubE (s : State) : Outcome := .next (aluReg .sub .e s.fetch)

/-- `SUB H` (94), R232. -/
def execSubH (s : State) : Outcome := .next (aluReg .sub .h s.fetch)

/-- `SUB L` (95), R232. -/
def execSubL (s : State) : Outcome := .next (aluReg .sub .l s.fetch)

/-- `SUB (HL)` (96), R232. -/
def execSubAtHL (s : State) : Outcome := .next (aluMem .sub s.fetch)

/-- `SUB A` (97), R232. -/
def execSubA (s : State) : Outcome := .next (aluReg .sub .a s.fetch)

/-- `SBC A,B` (98), R233. -/
def execSbcAB (s : State) : Outcome := .next (aluReg .sbc .b s.fetch)

/-- `SBC A,C` (99), R233. -/
def execSbcAC (s : State) : Outcome := .next (aluReg .sbc .c s.fetch)

/-- `SBC A,D` (9A), R233. -/
def execSbcAD (s : State) : Outcome := .next (aluReg .sbc .d s.fetch)

/-- `SBC A,E` (9B), R233. -/
def execSbcAE (s : State) : Outcome := .next (aluReg .sbc .e s.fetch)

/-- `SBC A,H` (9C), R233. -/
def execSbcAH (s : State) : Outcome := .next (aluReg .sbc .h s.fetch)

/-- `SBC A,L` (9D), R233. -/
def execSbcAL (s : State) : Outcome := .next (aluReg .sbc .l s.fetch)

/-- `SBC A,(HL)` (9E), R233. -/
def execSbcAAtHL (s : State) : Outcome := .next (aluMem .sbc s.fetch)

/-- `SBC A,A` (9F), R233. -/
def execSbcAA (s : State) : Outcome := .next (aluReg .sbc .a s.fetch)

/-- `AND B` (A0), R234. -/
def execAndB (s : State) : Outcome := .next (aluReg .and .b s.fetch)

/-- `AND C` (A1), R234. -/
def execAndC (s : State) : Outcome := .next (aluReg .and .c s.fetch)

/-- `AND D` (A2), R234. -/
def execAndD (s : State) : Outcome := .next (aluReg .and .d s.fetch)

/-- `AND E` (A3), R234. -/
def execAndE (s : State) : Outcome := .next (aluReg .and .e s.fetch)

/-- `AND H` (A4), R234. -/
def execAndH (s : State) : Outcome := .next (aluReg .and .h s.fetch)

/-- `AND L` (A5), R234. -/
def execAndL (s : State) : Outcome := .next (aluReg .and .l s.fetch)

/-- `AND (HL)` (A6), R234. -/
def execAndAtHL (s : State) : Outcome := .next (aluMem .and s.fetch)

/-- `AND A` (A7), R234. -/
def execAndA (s : State) : Outcome := .next (aluReg .and .a s.fetch)

/-- `XOR B` (A8), R235. -/
def execXorB (s : State) : Outcome := .next (aluReg .xor .b s.fetch)

/-- `XOR C` (A9), R235. -/
def execXorC (s : State) : Outcome := .next (aluReg .xor .c s.fetch)

/-- `XOR D` (AA), R235. -/
def execXorD (s : State) : Outcome := .next (aluReg .xor .d s.fetch)

/-- `XOR E` (AB), R235. -/
def execXorE (s : State) : Outcome := .next (aluReg .xor .e s.fetch)

/-- `XOR H` (AC), R235. -/
def execXorH (s : State) : Outcome := .next (aluReg .xor .h s.fetch)

/-- `XOR L` (AD), R235. -/
def execXorL (s : State) : Outcome := .next (aluReg .xor .l s.fetch)

/-- `XOR (HL)` (AE), R235. -/
def execXorAtHL (s : State) : Outcome := .next (aluMem .xor s.fetch)

/-- `XOR A` (AF), R235. -/
def execXorA (s : State) : Outcome := .next (aluReg .xor .a s.fetch)

/-- `OR B` (B0), R236. -/
def execOrB (s : State) : Outcome := .next (aluReg .or .b s.fetch)

/-- `OR C` (B1), R236. -/
def execOrC (s : State) : Outcome := .next (aluReg .or .c s.fetch)

/-- `OR D` (B2), R236. -/
def execOrD (s : State) : Outcome := .next (aluReg .or .d s.fetch)

/-- `OR E` (B3), R236. -/
def execOrE (s : State) : Outcome := .next (aluReg .or .e s.fetch)

/-- `OR H` (B4), R236. -/
def execOrH (s : State) : Outcome := .next (aluReg .or .h s.fetch)

/-- `OR L` (B5), R236. -/
def execOrL (s : State) : Outcome := .next (aluReg .or .l s.fetch)

/-- `OR (HL)` (B6), R236. -/
def execOrAtHL (s : State) : Outcome := .next (aluMem .or s.fetch)

/-- `OR A` (B7), R236. -/
def execOrA (s : State) : Outcome := .next (aluReg .or .a s.fetch)

/-- `CP B` (B8), R237. -/
def execCpB (s : State) : Outcome := .next (aluReg .cp .b s.fetch)

/-- `CP C` (B9), R237. -/
def execCpC (s : State) : Outcome := .next (aluReg .cp .c s.fetch)

/-- `CP D` (BA), R237. -/
def execCpD (s : State) : Outcome := .next (aluReg .cp .d s.fetch)

/-- `CP E` (BB), R237. -/
def execCpE (s : State) : Outcome := .next (aluReg .cp .e s.fetch)

/-- `CP H` (BC), R237. -/
def execCpH (s : State) : Outcome := .next (aluReg .cp .h s.fetch)

/-- `CP L` (BD), R237. -/
def execCpL (s : State) : Outcome := .next (aluReg .cp .l s.fetch)

/-- `CP (HL)` (BE), R237. -/
def execCpAtHL (s : State) : Outcome := .next (aluMem .cp s.fetch)

/-- `CP A` (BF), R237. -/
def execCpA (s : State) : Outcome := .next (aluReg .cp .a s.fetch)

/-- `ADD A,n` (C6), R230. -/
def execAddAImm (s : State) : Outcome := .next (aluImm .add s.fetch)

/-- `ADC A,n` (CE), R231. -/
def execAdcAImm (s : State) : Outcome := .next (aluImm .adc s.fetch)

/-- `SUB n` (D6), R232. -/
def execSubImm (s : State) : Outcome := .next (aluImm .sub s.fetch)

/-- `SBC A,n` (DE), R233. -/
def execSbcAImm (s : State) : Outcome := .next (aluImm .sbc s.fetch)

/-- `AND n` (E6), R234. -/
def execAndImm (s : State) : Outcome := .next (aluImm .and s.fetch)

/-- `XOR n` (EE), R235. -/
def execXorImm (s : State) : Outcome := .next (aluImm .xor s.fetch)

/-- `OR n` (F6), R236. -/
def execOrImm (s : State) : Outcome := .next (aluImm .or s.fetch)

/-- `CP n` (FE), R237. -/
def execCpImm (s : State) : Outcome := .next (aluImm .cp s.fetch)

end Sys2Proof.Machine
end

