-- ==== Sys2Proof/Machine/BitOps.lean ====
section
/-! DEFINITION. The CB table: rotates, shifts, BIT, RES and SET (44_cb.md R330 to R342). -/

namespace Sys2Proof.Machine

/-! ## Shared operations -/

/-- `s <- rot[y](s)` on a register (R331 to R338). -/
def rotReg (op : RotOp) (x : Reg8) (s : State) : State :=
  let o := rotate op (s.reg8 x) s.regs.f
  (s.setReg8 x o.res).setF o.flags

/-- `rot[y] (HL)` (R330 to R338). -/
def rotMem (op : RotOp) (s : State) : State :=
  modifyMem (s.reg16 .hl) (rotate op (s.peek (s.reg16 .hl)) s.regs.f) s

/-- `BIT b,r` (R339). -/
def bitReg (b : Nat) (x : Reg8) (s : State) : State :=
  s.setF (bitFlags b (s.reg8 x) (s.reg8 x) s.regs.f)

/-- `BIT b,(HL)`: bits 5 and 3 from the high byte of `MEMPTR` (R340). -/
def bitMem (b : Nat) (s : State) : State :=
  ((s.memRead (s.reg16 .hl)).contend (s.reg16 .hl) 1 1).setF
    (bitFlags b (s.peek (s.reg16 .hl)) (hiByte s.regs.memptr) s.regs.f)

/-- `RES b,r` (R341). -/
def resReg (b : Nat) (x : Reg8) (s : State) : State := s.setReg8 x (resBit b (s.reg8 x))

/-- `RES b,(HL)` (R341). -/
def resMem (b : Nat) (s : State) : State :=
  modifyMem (s.reg16 .hl) ⟨resBit b (s.peek (s.reg16 .hl)), s.regs.f⟩ s

/-- `SET b,r` (R342). -/
def setBitReg (b : Nat) (x : Reg8) (s : State) : State := s.setReg8 x (setBit b (s.reg8 x))

/-- `SET b,(HL)` (R342). -/
def setMem (b : Nat) (s : State) : State :=
  modifyMem (s.reg16 .hl) ⟨setBit b (s.peek (s.reg16 .hl)), s.regs.f⟩ s

/-! ## The instructions -/

/-- `RLC B` (CB 00), R331. -/
def execRlcB (s : State) : Outcome := .next (rotReg .rlc .b s.fetch2)

/-- `RLC C` (CB 01), R331. -/
def execRlcC (s : State) : Outcome := .next (rotReg .rlc .c s.fetch2)

/-- `RLC D` (CB 02), R331. -/
def execRlcD (s : State) : Outcome := .next (rotReg .rlc .d s.fetch2)

/-- `RLC E` (CB 03), R331. -/
def execRlcE (s : State) : Outcome := .next (rotReg .rlc .e s.fetch2)

/-- `RLC H` (CB 04), R331. -/
def execRlcH (s : State) : Outcome := .next (rotReg .rlc .h s.fetch2)

/-- `RLC L` (CB 05), R331. -/
def execRlcL (s : State) : Outcome := .next (rotReg .rlc .l s.fetch2)

/-- `RLC (HL)` (CB 06), R331. -/
def execRlcAtHL (s : State) : Outcome := .next (rotMem .rlc s.fetch2)

/-- `RLC A` (CB 07), R331. -/
def execRlcA (s : State) : Outcome := .next (rotReg .rlc .a s.fetch2)

/-- `RRC B` (CB 08), R332. -/
def execRrcB (s : State) : Outcome := .next (rotReg .rrc .b s.fetch2)

/-- `RRC C` (CB 09), R332. -/
def execRrcC (s : State) : Outcome := .next (rotReg .rrc .c s.fetch2)

/-- `RRC D` (CB 0A), R332. -/
def execRrcD (s : State) : Outcome := .next (rotReg .rrc .d s.fetch2)

/-- `RRC E` (CB 0B), R332. -/
def execRrcE (s : State) : Outcome := .next (rotReg .rrc .e s.fetch2)

/-- `RRC H` (CB 0C), R332. -/
def execRrcH (s : State) : Outcome := .next (rotReg .rrc .h s.fetch2)

/-- `RRC L` (CB 0D), R332. -/
def execRrcL (s : State) : Outcome := .next (rotReg .rrc .l s.fetch2)

/-- `RRC (HL)` (CB 0E), R332. -/
def execRrcAtHL (s : State) : Outcome := .next (rotMem .rrc s.fetch2)

/-- `RRC A` (CB 0F), R332. -/
def execRrcA (s : State) : Outcome := .next (rotReg .rrc .a s.fetch2)

/-- `RL B` (CB 10), R333. -/
def execRlB (s : State) : Outcome := .next (rotReg .rl .b s.fetch2)

/-- `RL C` (CB 11), R333. -/
def execRlC (s : State) : Outcome := .next (rotReg .rl .c s.fetch2)

/-- `RL D` (CB 12), R333. -/
def execRlD (s : State) : Outcome := .next (rotReg .rl .d s.fetch2)

/-- `RL E` (CB 13), R333. -/
def execRlE (s : State) : Outcome := .next (rotReg .rl .e s.fetch2)

/-- `RL H` (CB 14), R333. -/
def execRlH (s : State) : Outcome := .next (rotReg .rl .h s.fetch2)

/-- `RL L` (CB 15), R333. -/
def execRlL (s : State) : Outcome := .next (rotReg .rl .l s.fetch2)

/-- `RL (HL)` (CB 16), R333. -/
def execRlAtHL (s : State) : Outcome := .next (rotMem .rl s.fetch2)

/-- `RL A` (CB 17), R333. -/
def execRlA (s : State) : Outcome := .next (rotReg .rl .a s.fetch2)

/-- `RR B` (CB 18), R334. -/
def execRrB (s : State) : Outcome := .next (rotReg .rr .b s.fetch2)

/-- `RR C` (CB 19), R334. -/
def execRrC (s : State) : Outcome := .next (rotReg .rr .c s.fetch2)

/-- `RR D` (CB 1A), R334. -/
def execRrD (s : State) : Outcome := .next (rotReg .rr .d s.fetch2)

/-- `RR E` (CB 1B), R334. -/
def execRrE (s : State) : Outcome := .next (rotReg .rr .e s.fetch2)

/-- `RR H` (CB 1C), R334. -/
def execRrH (s : State) : Outcome := .next (rotReg .rr .h s.fetch2)

/-- `RR L` (CB 1D), R334. -/
def execRrL (s : State) : Outcome := .next (rotReg .rr .l s.fetch2)

/-- `RR (HL)` (CB 1E), R334. -/
def execRrAtHL (s : State) : Outcome := .next (rotMem .rr s.fetch2)

/-- `RR A` (CB 1F), R334. -/
def execRrA (s : State) : Outcome := .next (rotReg .rr .a s.fetch2)

/-- `SLA B` (CB 20), R335. -/
def execSlaB (s : State) : Outcome := .next (rotReg .sla .b s.fetch2)

/-- `SLA C` (CB 21), R335. -/
def execSlaC (s : State) : Outcome := .next (rotReg .sla .c s.fetch2)

/-- `SLA D` (CB 22), R335. -/
def execSlaD (s : State) : Outcome := .next (rotReg .sla .d s.fetch2)

/-- `SLA E` (CB 23), R335. -/
def execSlaE (s : State) : Outcome := .next (rotReg .sla .e s.fetch2)

/-- `SLA H` (CB 24), R335. -/
def execSlaH (s : State) : Outcome := .next (rotReg .sla .h s.fetch2)

/-- `SLA L` (CB 25), R335. -/
def execSlaL (s : State) : Outcome := .next (rotReg .sla .l s.fetch2)

/-- `SLA (HL)` (CB 26), R335. -/
def execSlaAtHL (s : State) : Outcome := .next (rotMem .sla s.fetch2)

/-- `SLA A` (CB 27), R335. -/
def execSlaA (s : State) : Outcome := .next (rotReg .sla .a s.fetch2)

/-- `SRA B` (CB 28), R336. -/
def execSraB (s : State) : Outcome := .next (rotReg .sra .b s.fetch2)

/-- `SRA C` (CB 29), R336. -/
def execSraC (s : State) : Outcome := .next (rotReg .sra .c s.fetch2)

/-- `SRA D` (CB 2A), R336. -/
def execSraD (s : State) : Outcome := .next (rotReg .sra .d s.fetch2)

/-- `SRA E` (CB 2B), R336. -/
def execSraE (s : State) : Outcome := .next (rotReg .sra .e s.fetch2)

/-- `SRA H` (CB 2C), R336. -/
def execSraH (s : State) : Outcome := .next (rotReg .sra .h s.fetch2)

/-- `SRA L` (CB 2D), R336. -/
def execSraL (s : State) : Outcome := .next (rotReg .sra .l s.fetch2)

/-- `SRA (HL)` (CB 2E), R336. -/
def execSraAtHL (s : State) : Outcome := .next (rotMem .sra s.fetch2)

/-- `SRA A` (CB 2F), R336. -/
def execSraA (s : State) : Outcome := .next (rotReg .sra .a s.fetch2)

/-- `SLL B` (CB 30), R337. -/
def execSllB (s : State) : Outcome := .next (rotReg .sll .b s.fetch2)

/-- `SLL C` (CB 31), R337. -/
def execSllC (s : State) : Outcome := .next (rotReg .sll .c s.fetch2)

/-- `SLL D` (CB 32), R337. -/
def execSllD (s : State) : Outcome := .next (rotReg .sll .d s.fetch2)

/-- `SLL E` (CB 33), R337. -/
def execSllE (s : State) : Outcome := .next (rotReg .sll .e s.fetch2)

/-- `SLL H` (CB 34), R337. -/
def execSllH (s : State) : Outcome := .next (rotReg .sll .h s.fetch2)

/-- `SLL L` (CB 35), R337. -/
def execSllL (s : State) : Outcome := .next (rotReg .sll .l s.fetch2)

/-- `SLL (HL)` (CB 36), R337. -/
def execSllAtHL (s : State) : Outcome := .next (rotMem .sll s.fetch2)

/-- `SLL A` (CB 37), R337. -/
def execSllA (s : State) : Outcome := .next (rotReg .sll .a s.fetch2)

/-- `SRL B` (CB 38), R338. -/
def execSrlB (s : State) : Outcome := .next (rotReg .srl .b s.fetch2)

/-- `SRL C` (CB 39), R338. -/
def execSrlC (s : State) : Outcome := .next (rotReg .srl .c s.fetch2)

/-- `SRL D` (CB 3A), R338. -/
def execSrlD (s : State) : Outcome := .next (rotReg .srl .d s.fetch2)

/-- `SRL E` (CB 3B), R338. -/
def execSrlE (s : State) : Outcome := .next (rotReg .srl .e s.fetch2)

/-- `SRL H` (CB 3C), R338. -/
def execSrlH (s : State) : Outcome := .next (rotReg .srl .h s.fetch2)

/-- `SRL L` (CB 3D), R338. -/
def execSrlL (s : State) : Outcome := .next (rotReg .srl .l s.fetch2)

/-- `SRL (HL)` (CB 3E), R338. -/
def execSrlAtHL (s : State) : Outcome := .next (rotMem .srl s.fetch2)

/-- `SRL A` (CB 3F), R338. -/
def execSrlA (s : State) : Outcome := .next (rotReg .srl .a s.fetch2)

/-- `BIT 0,B` (CB 40), R339. -/
def execBit0B (s : State) : Outcome := .next (bitReg 0 .b s.fetch2)

/-- `BIT 0,C` (CB 41), R339. -/
def execBit0C (s : State) : Outcome := .next (bitReg 0 .c s.fetch2)

/-- `BIT 0,D` (CB 42), R339. -/
def execBit0D (s : State) : Outcome := .next (bitReg 0 .d s.fetch2)

/-- `BIT 0,E` (CB 43), R339. -/
def execBit0E (s : State) : Outcome := .next (bitReg 0 .e s.fetch2)

/-- `BIT 0,H` (CB 44), R339. -/
def execBit0H (s : State) : Outcome := .next (bitReg 0 .h s.fetch2)

/-- `BIT 0,L` (CB 45), R339. -/
def execBit0L (s : State) : Outcome := .next (bitReg 0 .l s.fetch2)

/-- `BIT 0,(HL)` (CB 46), R340. -/
def execBit0AtHL (s : State) : Outcome := .next (bitMem 0 s.fetch2)

/-- `BIT 0,A` (CB 47), R339. -/
def execBit0A (s : State) : Outcome := .next (bitReg 0 .a s.fetch2)

/-- `BIT 1,B` (CB 48), R339. -/
def execBit1B (s : State) : Outcome := .next (bitReg 1 .b s.fetch2)

/-- `BIT 1,C` (CB 49), R339. -/
def execBit1C (s : State) : Outcome := .next (bitReg 1 .c s.fetch2)

/-- `BIT 1,D` (CB 4A), R339. -/
def execBit1D (s : State) : Outcome := .next (bitReg 1 .d s.fetch2)

/-- `BIT 1,E` (CB 4B), R339. -/
def execBit1E (s : State) : Outcome := .next (bitReg 1 .e s.fetch2)

/-- `BIT 1,H` (CB 4C), R339. -/
def execBit1H (s : State) : Outcome := .next (bitReg 1 .h s.fetch2)

/-- `BIT 1,L` (CB 4D), R339. -/
def execBit1L (s : State) : Outcome := .next (bitReg 1 .l s.fetch2)

/-- `BIT 1,(HL)` (CB 4E), R340. -/
def execBit1AtHL (s : State) : Outcome := .next (bitMem 1 s.fetch2)

/-- `BIT 1,A` (CB 4F), R339. -/
def execBit1A (s : State) : Outcome := .next (bitReg 1 .a s.fetch2)

/-- `BIT 2,B` (CB 50), R339. -/
def execBit2B (s : State) : Outcome := .next (bitReg 2 .b s.fetch2)

/-- `BIT 2,C` (CB 51), R339. -/
def execBit2C (s : State) : Outcome := .next (bitReg 2 .c s.fetch2)

/-- `BIT 2,D` (CB 52), R339. -/
def execBit2D (s : State) : Outcome := .next (bitReg 2 .d s.fetch2)

/-- `BIT 2,E` (CB 53), R339. -/
def execBit2E (s : State) : Outcome := .next (bitReg 2 .e s.fetch2)

/-- `BIT 2,H` (CB 54), R339. -/
def execBit2H (s : State) : Outcome := .next (bitReg 2 .h s.fetch2)

/-- `BIT 2,L` (CB 55), R339. -/
def execBit2L (s : State) : Outcome := .next (bitReg 2 .l s.fetch2)

/-- `BIT 2,(HL)` (CB 56), R340. -/
def execBit2AtHL (s : State) : Outcome := .next (bitMem 2 s.fetch2)

/-- `BIT 2,A` (CB 57), R339. -/
def execBit2A (s : State) : Outcome := .next (bitReg 2 .a s.fetch2)

/-- `BIT 3,B` (CB 58), R339. -/
def execBit3B (s : State) : Outcome := .next (bitReg 3 .b s.fetch2)

/-- `BIT 3,C` (CB 59), R339. -/
def execBit3C (s : State) : Outcome := .next (bitReg 3 .c s.fetch2)

/-- `BIT 3,D` (CB 5A), R339. -/
def execBit3D (s : State) : Outcome := .next (bitReg 3 .d s.fetch2)

/-- `BIT 3,E` (CB 5B), R339. -/
def execBit3E (s : State) : Outcome := .next (bitReg 3 .e s.fetch2)

/-- `BIT 3,H` (CB 5C), R339. -/
def execBit3H (s : State) : Outcome := .next (bitReg 3 .h s.fetch2)

/-- `BIT 3,L` (CB 5D), R339. -/
def execBit3L (s : State) : Outcome := .next (bitReg 3 .l s.fetch2)

/-- `BIT 3,(HL)` (CB 5E), R340. -/
def execBit3AtHL (s : State) : Outcome := .next (bitMem 3 s.fetch2)

/-- `BIT 3,A` (CB 5F), R339. -/
def execBit3A (s : State) : Outcome := .next (bitReg 3 .a s.fetch2)

/-- `BIT 4,B` (CB 60), R339. -/
def execBit4B (s : State) : Outcome := .next (bitReg 4 .b s.fetch2)

/-- `BIT 4,C` (CB 61), R339. -/
def execBit4C (s : State) : Outcome := .next (bitReg 4 .c s.fetch2)

/-- `BIT 4,D` (CB 62), R339. -/
def execBit4D (s : State) : Outcome := .next (bitReg 4 .d s.fetch2)

/-- `BIT 4,E` (CB 63), R339. -/
def execBit4E (s : State) : Outcome := .next (bitReg 4 .e s.fetch2)

/-- `BIT 4,H` (CB 64), R339. -/
def execBit4H (s : State) : Outcome := .next (bitReg 4 .h s.fetch2)

/-- `BIT 4,L` (CB 65), R339. -/
def execBit4L (s : State) : Outcome := .next (bitReg 4 .l s.fetch2)

/-- `BIT 4,(HL)` (CB 66), R340. -/
def execBit4AtHL (s : State) : Outcome := .next (bitMem 4 s.fetch2)

/-- `BIT 4,A` (CB 67), R339. -/
def execBit4A (s : State) : Outcome := .next (bitReg 4 .a s.fetch2)

/-- `BIT 5,B` (CB 68), R339. -/
def execBit5B (s : State) : Outcome := .next (bitReg 5 .b s.fetch2)

/-- `BIT 5,C` (CB 69), R339. -/
def execBit5C (s : State) : Outcome := .next (bitReg 5 .c s.fetch2)

/-- `BIT 5,D` (CB 6A), R339. -/
def execBit5D (s : State) : Outcome := .next (bitReg 5 .d s.fetch2)

/-- `BIT 5,E` (CB 6B), R339. -/
def execBit5E (s : State) : Outcome := .next (bitReg 5 .e s.fetch2)

/-- `BIT 5,H` (CB 6C), R339. -/
def execBit5H (s : State) : Outcome := .next (bitReg 5 .h s.fetch2)

/-- `BIT 5,L` (CB 6D), R339. -/
def execBit5L (s : State) : Outcome := .next (bitReg 5 .l s.fetch2)

/-- `BIT 5,(HL)` (CB 6E), R340. -/
def execBit5AtHL (s : State) : Outcome := .next (bitMem 5 s.fetch2)

/-- `BIT 5,A` (CB 6F), R339. -/
def execBit5A (s : State) : Outcome := .next (bitReg 5 .a s.fetch2)

/-- `BIT 6,B` (CB 70), R339. -/
def execBit6B (s : State) : Outcome := .next (bitReg 6 .b s.fetch2)

/-- `BIT 6,C` (CB 71), R339. -/
def execBit6C (s : State) : Outcome := .next (bitReg 6 .c s.fetch2)

/-- `BIT 6,D` (CB 72), R339. -/
def execBit6D (s : State) : Outcome := .next (bitReg 6 .d s.fetch2)

/-- `BIT 6,E` (CB 73), R339. -/
def execBit6E (s : State) : Outcome := .next (bitReg 6 .e s.fetch2)

/-- `BIT 6,H` (CB 74), R339. -/
def execBit6H (s : State) : Outcome := .next (bitReg 6 .h s.fetch2)

/-- `BIT 6,L` (CB 75), R339. -/
def execBit6L (s : State) : Outcome := .next (bitReg 6 .l s.fetch2)

/-- `BIT 6,(HL)` (CB 76), R340. -/
def execBit6AtHL (s : State) : Outcome := .next (bitMem 6 s.fetch2)

/-- `BIT 6,A` (CB 77), R339. -/
def execBit6A (s : State) : Outcome := .next (bitReg 6 .a s.fetch2)

/-- `BIT 7,B` (CB 78), R339. -/
def execBit7B (s : State) : Outcome := .next (bitReg 7 .b s.fetch2)

/-- `BIT 7,C` (CB 79), R339. -/
def execBit7C (s : State) : Outcome := .next (bitReg 7 .c s.fetch2)

/-- `BIT 7,D` (CB 7A), R339. -/
def execBit7D (s : State) : Outcome := .next (bitReg 7 .d s.fetch2)

/-- `BIT 7,E` (CB 7B), R339. -/
def execBit7E (s : State) : Outcome := .next (bitReg 7 .e s.fetch2)

/-- `BIT 7,H` (CB 7C), R339. -/
def execBit7H (s : State) : Outcome := .next (bitReg 7 .h s.fetch2)

/-- `BIT 7,L` (CB 7D), R339. -/
def execBit7L (s : State) : Outcome := .next (bitReg 7 .l s.fetch2)

/-- `BIT 7,(HL)` (CB 7E), R340. -/
def execBit7AtHL (s : State) : Outcome := .next (bitMem 7 s.fetch2)

/-- `BIT 7,A` (CB 7F), R339. -/
def execBit7A (s : State) : Outcome := .next (bitReg 7 .a s.fetch2)

/-- `RES 0,B` (CB 80), R341. -/
def execRes0B (s : State) : Outcome := .next (resReg 0 .b s.fetch2)

/-- `RES 0,C` (CB 81), R341. -/
def execRes0C (s : State) : Outcome := .next (resReg 0 .c s.fetch2)

/-- `RES 0,D` (CB 82), R341. -/
def execRes0D (s : State) : Outcome := .next (resReg 0 .d s.fetch2)

/-- `RES 0,E` (CB 83), R341. -/
def execRes0E (s : State) : Outcome := .next (resReg 0 .e s.fetch2)

/-- `RES 0,H` (CB 84), R341. -/
def execRes0H (s : State) : Outcome := .next (resReg 0 .h s.fetch2)

/-- `RES 0,L` (CB 85), R341. -/
def execRes0L (s : State) : Outcome := .next (resReg 0 .l s.fetch2)

/-- `RES 0,(HL)` (CB 86), R341. -/
def execRes0AtHL (s : State) : Outcome := .next (resMem 0 s.fetch2)

/-- `RES 0,A` (CB 87), R341. -/
def execRes0A (s : State) : Outcome := .next (resReg 0 .a s.fetch2)

/-- `RES 1,B` (CB 88), R341. -/
def execRes1B (s : State) : Outcome := .next (resReg 1 .b s.fetch2)

/-- `RES 1,C` (CB 89), R341. -/
def execRes1C (s : State) : Outcome := .next (resReg 1 .c s.fetch2)

/-- `RES 1,D` (CB 8A), R341. -/
def execRes1D (s : State) : Outcome := .next (resReg 1 .d s.fetch2)

/-- `RES 1,E` (CB 8B), R341. -/
def execRes1E (s : State) : Outcome := .next (resReg 1 .e s.fetch2)

/-- `RES 1,H` (CB 8C), R341. -/
def execRes1H (s : State) : Outcome := .next (resReg 1 .h s.fetch2)

/-- `RES 1,L` (CB 8D), R341. -/
def execRes1L (s : State) : Outcome := .next (resReg 1 .l s.fetch2)

/-- `RES 1,(HL)` (CB 8E), R341. -/
def execRes1AtHL (s : State) : Outcome := .next (resMem 1 s.fetch2)

/-- `RES 1,A` (CB 8F), R341. -/
def execRes1A (s : State) : Outcome := .next (resReg 1 .a s.fetch2)

/-- `RES 2,B` (CB 90), R341. -/
def execRes2B (s : State) : Outcome := .next (resReg 2 .b s.fetch2)

/-- `RES 2,C` (CB 91), R341. -/
def execRes2C (s : State) : Outcome := .next (resReg 2 .c s.fetch2)

/-- `RES 2,D` (CB 92), R341. -/
def execRes2D (s : State) : Outcome := .next (resReg 2 .d s.fetch2)

/-- `RES 2,E` (CB 93), R341. -/
def execRes2E (s : State) : Outcome := .next (resReg 2 .e s.fetch2)

/-- `RES 2,H` (CB 94), R341. -/
def execRes2H (s : State) : Outcome := .next (resReg 2 .h s.fetch2)

/-- `RES 2,L` (CB 95), R341. -/
def execRes2L (s : State) : Outcome := .next (resReg 2 .l s.fetch2)

/-- `RES 2,(HL)` (CB 96), R341. -/
def execRes2AtHL (s : State) : Outcome := .next (resMem 2 s.fetch2)

/-- `RES 2,A` (CB 97), R341. -/
def execRes2A (s : State) : Outcome := .next (resReg 2 .a s.fetch2)

/-- `RES 3,B` (CB 98), R341. -/
def execRes3B (s : State) : Outcome := .next (resReg 3 .b s.fetch2)

/-- `RES 3,C` (CB 99), R341. -/
def execRes3C (s : State) : Outcome := .next (resReg 3 .c s.fetch2)

/-- `RES 3,D` (CB 9A), R341. -/
def execRes3D (s : State) : Outcome := .next (resReg 3 .d s.fetch2)

/-- `RES 3,E` (CB 9B), R341. -/
def execRes3E (s : State) : Outcome := .next (resReg 3 .e s.fetch2)

/-- `RES 3,H` (CB 9C), R341. -/
def execRes3H (s : State) : Outcome := .next (resReg 3 .h s.fetch2)

/-- `RES 3,L` (CB 9D), R341. -/
def execRes3L (s : State) : Outcome := .next (resReg 3 .l s.fetch2)

/-- `RES 3,(HL)` (CB 9E), R341. -/
def execRes3AtHL (s : State) : Outcome := .next (resMem 3 s.fetch2)

/-- `RES 3,A` (CB 9F), R341. -/
def execRes3A (s : State) : Outcome := .next (resReg 3 .a s.fetch2)

/-- `RES 4,B` (CB A0), R341. -/
def execRes4B (s : State) : Outcome := .next (resReg 4 .b s.fetch2)

/-- `RES 4,C` (CB A1), R341. -/
def execRes4C (s : State) : Outcome := .next (resReg 4 .c s.fetch2)

/-- `RES 4,D` (CB A2), R341. -/
def execRes4D (s : State) : Outcome := .next (resReg 4 .d s.fetch2)

/-- `RES 4,E` (CB A3), R341. -/
def execRes4E (s : State) : Outcome := .next (resReg 4 .e s.fetch2)

/-- `RES 4,H` (CB A4), R341. -/
def execRes4H (s : State) : Outcome := .next (resReg 4 .h s.fetch2)

/-- `RES 4,L` (CB A5), R341. -/
def execRes4L (s : State) : Outcome := .next (resReg 4 .l s.fetch2)

/-- `RES 4,(HL)` (CB A6), R341. -/
def execRes4AtHL (s : State) : Outcome := .next (resMem 4 s.fetch2)

/-- `RES 4,A` (CB A7), R341. -/
def execRes4A (s : State) : Outcome := .next (resReg 4 .a s.fetch2)

/-- `RES 5,B` (CB A8), R341. -/
def execRes5B (s : State) : Outcome := .next (resReg 5 .b s.fetch2)

/-- `RES 5,C` (CB A9), R341. -/
def execRes5C (s : State) : Outcome := .next (resReg 5 .c s.fetch2)

/-- `RES 5,D` (CB AA), R341. -/
def execRes5D (s : State) : Outcome := .next (resReg 5 .d s.fetch2)

/-- `RES 5,E` (CB AB), R341. -/
def execRes5E (s : State) : Outcome := .next (resReg 5 .e s.fetch2)

/-- `RES 5,H` (CB AC), R341. -/
def execRes5H (s : State) : Outcome := .next (resReg 5 .h s.fetch2)

/-- `RES 5,L` (CB AD), R341. -/
def execRes5L (s : State) : Outcome := .next (resReg 5 .l s.fetch2)

/-- `RES 5,(HL)` (CB AE), R341. -/
def execRes5AtHL (s : State) : Outcome := .next (resMem 5 s.fetch2)

/-- `RES 5,A` (CB AF), R341. -/
def execRes5A (s : State) : Outcome := .next (resReg 5 .a s.fetch2)

/-- `RES 6,B` (CB B0), R341. -/
def execRes6B (s : State) : Outcome := .next (resReg 6 .b s.fetch2)

/-- `RES 6,C` (CB B1), R341. -/
def execRes6C (s : State) : Outcome := .next (resReg 6 .c s.fetch2)

/-- `RES 6,D` (CB B2), R341. -/
def execRes6D (s : State) : Outcome := .next (resReg 6 .d s.fetch2)

/-- `RES 6,E` (CB B3), R341. -/
def execRes6E (s : State) : Outcome := .next (resReg 6 .e s.fetch2)

/-- `RES 6,H` (CB B4), R341. -/
def execRes6H (s : State) : Outcome := .next (resReg 6 .h s.fetch2)

/-- `RES 6,L` (CB B5), R341. -/
def execRes6L (s : State) : Outcome := .next (resReg 6 .l s.fetch2)

/-- `RES 6,(HL)` (CB B6), R341. -/
def execRes6AtHL (s : State) : Outcome := .next (resMem 6 s.fetch2)

/-- `RES 6,A` (CB B7), R341. -/
def execRes6A (s : State) : Outcome := .next (resReg 6 .a s.fetch2)

/-- `RES 7,B` (CB B8), R341. -/
def execRes7B (s : State) : Outcome := .next (resReg 7 .b s.fetch2)

/-- `RES 7,C` (CB B9), R341. -/
def execRes7C (s : State) : Outcome := .next (resReg 7 .c s.fetch2)

/-- `RES 7,D` (CB BA), R341. -/
def execRes7D (s : State) : Outcome := .next (resReg 7 .d s.fetch2)

/-- `RES 7,E` (CB BB), R341. -/
def execRes7E (s : State) : Outcome := .next (resReg 7 .e s.fetch2)

/-- `RES 7,H` (CB BC), R341. -/
def execRes7H (s : State) : Outcome := .next (resReg 7 .h s.fetch2)

/-- `RES 7,L` (CB BD), R341. -/
def execRes7L (s : State) : Outcome := .next (resReg 7 .l s.fetch2)

/-- `RES 7,(HL)` (CB BE), R341. -/
def execRes7AtHL (s : State) : Outcome := .next (resMem 7 s.fetch2)

/-- `RES 7,A` (CB BF), R341. -/
def execRes7A (s : State) : Outcome := .next (resReg 7 .a s.fetch2)

/-- `SET 0,B` (CB C0), R342. -/
def execSet0B (s : State) : Outcome := .next (setBitReg 0 .b s.fetch2)

/-- `SET 0,C` (CB C1), R342. -/
def execSet0C (s : State) : Outcome := .next (setBitReg 0 .c s.fetch2)

/-- `SET 0,D` (CB C2), R342. -/
def execSet0D (s : State) : Outcome := .next (setBitReg 0 .d s.fetch2)

/-- `SET 0,E` (CB C3), R342. -/
def execSet0E (s : State) : Outcome := .next (setBitReg 0 .e s.fetch2)

/-- `SET 0,H` (CB C4), R342. -/
def execSet0H (s : State) : Outcome := .next (setBitReg 0 .h s.fetch2)

/-- `SET 0,L` (CB C5), R342. -/
def execSet0L (s : State) : Outcome := .next (setBitReg 0 .l s.fetch2)

/-- `SET 0,(HL)` (CB C6), R342. -/
def execSet0AtHL (s : State) : Outcome := .next (setMem 0 s.fetch2)

/-- `SET 0,A` (CB C7), R342. -/
def execSet0A (s : State) : Outcome := .next (setBitReg 0 .a s.fetch2)

/-- `SET 1,B` (CB C8), R342. -/
def execSet1B (s : State) : Outcome := .next (setBitReg 1 .b s.fetch2)

/-- `SET 1,C` (CB C9), R342. -/
def execSet1C (s : State) : Outcome := .next (setBitReg 1 .c s.fetch2)

/-- `SET 1,D` (CB CA), R342. -/
def execSet1D (s : State) : Outcome := .next (setBitReg 1 .d s.fetch2)

/-- `SET 1,E` (CB CB), R342. -/
def execSet1E (s : State) : Outcome := .next (setBitReg 1 .e s.fetch2)

/-- `SET 1,H` (CB CC), R342. -/
def execSet1H (s : State) : Outcome := .next (setBitReg 1 .h s.fetch2)

/-- `SET 1,L` (CB CD), R342. -/
def execSet1L (s : State) : Outcome := .next (setBitReg 1 .l s.fetch2)

/-- `SET 1,(HL)` (CB CE), R342. -/
def execSet1AtHL (s : State) : Outcome := .next (setMem 1 s.fetch2)

/-- `SET 1,A` (CB CF), R342. -/
def execSet1A (s : State) : Outcome := .next (setBitReg 1 .a s.fetch2)

/-- `SET 2,B` (CB D0), R342. -/
def execSet2B (s : State) : Outcome := .next (setBitReg 2 .b s.fetch2)

/-- `SET 2,C` (CB D1), R342. -/
def execSet2C (s : State) : Outcome := .next (setBitReg 2 .c s.fetch2)

/-- `SET 2,D` (CB D2), R342. -/
def execSet2D (s : State) : Outcome := .next (setBitReg 2 .d s.fetch2)

/-- `SET 2,E` (CB D3), R342. -/
def execSet2E (s : State) : Outcome := .next (setBitReg 2 .e s.fetch2)

/-- `SET 2,H` (CB D4), R342. -/
def execSet2H (s : State) : Outcome := .next (setBitReg 2 .h s.fetch2)

/-- `SET 2,L` (CB D5), R342. -/
def execSet2L (s : State) : Outcome := .next (setBitReg 2 .l s.fetch2)

/-- `SET 2,(HL)` (CB D6), R342. -/
def execSet2AtHL (s : State) : Outcome := .next (setMem 2 s.fetch2)

/-- `SET 2,A` (CB D7), R342. -/
def execSet2A (s : State) : Outcome := .next (setBitReg 2 .a s.fetch2)

/-- `SET 3,B` (CB D8), R342. -/
def execSet3B (s : State) : Outcome := .next (setBitReg 3 .b s.fetch2)

/-- `SET 3,C` (CB D9), R342. -/
def execSet3C (s : State) : Outcome := .next (setBitReg 3 .c s.fetch2)

/-- `SET 3,D` (CB DA), R342. -/
def execSet3D (s : State) : Outcome := .next (setBitReg 3 .d s.fetch2)

/-- `SET 3,E` (CB DB), R342. -/
def execSet3E (s : State) : Outcome := .next (setBitReg 3 .e s.fetch2)

/-- `SET 3,H` (CB DC), R342. -/
def execSet3H (s : State) : Outcome := .next (setBitReg 3 .h s.fetch2)

/-- `SET 3,L` (CB DD), R342. -/
def execSet3L (s : State) : Outcome := .next (setBitReg 3 .l s.fetch2)

/-- `SET 3,(HL)` (CB DE), R342. -/
def execSet3AtHL (s : State) : Outcome := .next (setMem 3 s.fetch2)

/-- `SET 3,A` (CB DF), R342. -/
def execSet3A (s : State) : Outcome := .next (setBitReg 3 .a s.fetch2)

/-- `SET 4,B` (CB E0), R342. -/
def execSet4B (s : State) : Outcome := .next (setBitReg 4 .b s.fetch2)

/-- `SET 4,C` (CB E1), R342. -/
def execSet4C (s : State) : Outcome := .next (setBitReg 4 .c s.fetch2)

/-- `SET 4,D` (CB E2), R342. -/
def execSet4D (s : State) : Outcome := .next (setBitReg 4 .d s.fetch2)

/-- `SET 4,E` (CB E3), R342. -/
def execSet4E (s : State) : Outcome := .next (setBitReg 4 .e s.fetch2)

/-- `SET 4,H` (CB E4), R342. -/
def execSet4H (s : State) : Outcome := .next (setBitReg 4 .h s.fetch2)

/-- `SET 4,L` (CB E5), R342. -/
def execSet4L (s : State) : Outcome := .next (setBitReg 4 .l s.fetch2)

/-- `SET 4,(HL)` (CB E6), R342. -/
def execSet4AtHL (s : State) : Outcome := .next (setMem 4 s.fetch2)

/-- `SET 4,A` (CB E7), R342. -/
def execSet4A (s : State) : Outcome := .next (setBitReg 4 .a s.fetch2)

/-- `SET 5,B` (CB E8), R342. -/
def execSet5B (s : State) : Outcome := .next (setBitReg 5 .b s.fetch2)

/-- `SET 5,C` (CB E9), R342. -/
def execSet5C (s : State) : Outcome := .next (setBitReg 5 .c s.fetch2)

/-- `SET 5,D` (CB EA), R342. -/
def execSet5D (s : State) : Outcome := .next (setBitReg 5 .d s.fetch2)

/-- `SET 5,E` (CB EB), R342. -/
def execSet5E (s : State) : Outcome := .next (setBitReg 5 .e s.fetch2)

/-- `SET 5,H` (CB EC), R342. -/
def execSet5H (s : State) : Outcome := .next (setBitReg 5 .h s.fetch2)

/-- `SET 5,L` (CB ED), R342. -/
def execSet5L (s : State) : Outcome := .next (setBitReg 5 .l s.fetch2)

/-- `SET 5,(HL)` (CB EE), R342. -/
def execSet5AtHL (s : State) : Outcome := .next (setMem 5 s.fetch2)

/-- `SET 5,A` (CB EF), R342. -/
def execSet5A (s : State) : Outcome := .next (setBitReg 5 .a s.fetch2)

/-- `SET 6,B` (CB F0), R342. -/
def execSet6B (s : State) : Outcome := .next (setBitReg 6 .b s.fetch2)

/-- `SET 6,C` (CB F1), R342. -/
def execSet6C (s : State) : Outcome := .next (setBitReg 6 .c s.fetch2)

/-- `SET 6,D` (CB F2), R342. -/
def execSet6D (s : State) : Outcome := .next (setBitReg 6 .d s.fetch2)

/-- `SET 6,E` (CB F3), R342. -/
def execSet6E (s : State) : Outcome := .next (setBitReg 6 .e s.fetch2)

/-- `SET 6,H` (CB F4), R342. -/
def execSet6H (s : State) : Outcome := .next (setBitReg 6 .h s.fetch2)

/-- `SET 6,L` (CB F5), R342. -/
def execSet6L (s : State) : Outcome := .next (setBitReg 6 .l s.fetch2)

/-- `SET 6,(HL)` (CB F6), R342. -/
def execSet6AtHL (s : State) : Outcome := .next (setMem 6 s.fetch2)

/-- `SET 6,A` (CB F7), R342. -/
def execSet6A (s : State) : Outcome := .next (setBitReg 6 .a s.fetch2)

/-- `SET 7,B` (CB F8), R342. -/
def execSet7B (s : State) : Outcome := .next (setBitReg 7 .b s.fetch2)

/-- `SET 7,C` (CB F9), R342. -/
def execSet7C (s : State) : Outcome := .next (setBitReg 7 .c s.fetch2)

/-- `SET 7,D` (CB FA), R342. -/
def execSet7D (s : State) : Outcome := .next (setBitReg 7 .d s.fetch2)

/-- `SET 7,E` (CB FB), R342. -/
def execSet7E (s : State) : Outcome := .next (setBitReg 7 .e s.fetch2)

/-- `SET 7,H` (CB FC), R342. -/
def execSet7H (s : State) : Outcome := .next (setBitReg 7 .h s.fetch2)

/-- `SET 7,L` (CB FD), R342. -/
def execSet7L (s : State) : Outcome := .next (setBitReg 7 .l s.fetch2)

/-- `SET 7,(HL)` (CB FE), R342. -/
def execSet7AtHL (s : State) : Outcome := .next (setMem 7 s.fetch2)

/-- `SET 7,A` (CB FF), R342. -/
def execSet7A (s : State) : Outcome := .next (setBitReg 7 .a s.fetch2)

end Sys2Proof.Machine
end

