-- ==== Sys2Proof/Machine/Block.lean ====
section
/-! DEFINITION. The sixteen block instructions (46_ed_block.md R400 to R420): one iteration each, a
repetition being a step of its own (R416). -/

namespace Sys2Proof.Machine

/-! ## Shared operations -/

/-- A repeating form whose condition is unmet: `Contend(a, 1, 5); PC <- PC - 2; MEMPTR <- PC + 1`
(R416). -/
def repeatFrom (a : Word) (s : State) : State :=
  let pc := s.regs.pc - 2
  ((s.contend a 1 5).setPc pc).setMemptr (pc + 1)

/-- `BlockLD(dir, rep)` (R417). -/
def blockLd (dir : Dir) (rep : Bool) (s : State) : State :=
  let hl := s.reg16 .hl
  let de := s.reg16 .de
  let bc := s.reg16 .bc - 1
  let v := s.peek hl
  let t := (((s.memRead hl).setReg16 .bc bc).memWrite de v).contend de 1 2
  let u := (t.setReg16 .de (de + dir.step)).setReg16 .hl (hl + dir.step)
  let w := u.setF (blockLdFlags (v + s.regs.a) s.regs.f (bc != 0))
  if rep && bc != 0 then repeatFrom de w else w

/-- `BlockCP(dir, rep)` (R418). -/
def blockCp (dir : Dir) (rep : Bool) (s : State) : State :=
  let hl := s.reg16 .hl
  let bc := s.reg16 .bc - 1
  let v := s.peek hl
  let t := (s.memRead hl).contend hl 1 5
  let u := (t.setReg16 .hl (hl + dir.step)).setReg16 .bc bc
  let w := u.setF (blockCpFlags s.regs.a v s.regs.f (bc != 0))
  if rep && bc != 0 && s.regs.a != v then repeatFrom hl w
  else w.setMemptr (s.regs.memptr + dir.step)

/-- `BlockIN(dir, rep)`: the port is `BC` with `B` not yet decremented (R419). -/
def blockIn (dir : Dir) (rep : Bool) (s : State) : State :=
  let hl := s.reg16 .hl
  let port := s.reg16 .bc
  let v := s.portByte port
  let b := s.regs.b - 1
  let t := ((s.contend s.ir 1 1).portRead port).memWrite hl v
  let u := ((t.setMemptr (port + dir.step)).setReg8 .b b).setReg16 .hl (hl + dir.step)
  let w := u.setF (blockIoFlags v (s.regs.c + dir.step8) b)
  if rep && b != 0 then repeatFrom hl w else w

/-- `BlockOUT(dir, rep)`: `B` is decremented before the port write (R420). -/
def blockOut (dir : Dir) (rep : Bool) (s : State) : State :=
  let hl := s.reg16 .hl
  let v := s.peek hl
  let b := s.regs.b - 1
  let port := mkWord b s.regs.c
  let t := ((s.contend s.ir 1 1).memRead hl).setReg8 .b b
  let u := ((t.setMemptr (port + dir.step)).portWrite port v).setReg16 .hl (hl + dir.step)
  let w := u.setF (blockIoFlags v (loByte (hl + dir.step)) b)
  if rep && b != 0 then repeatFrom port w else w

/-! ## The instructions -/

/-- `LDI` (ED A0), R400. -/
def execLdi (s : State) : Outcome := .next (blockLd .up false s.fetch2)

/-- `CPI` (ED A1), R404. -/
def execCpi (s : State) : Outcome := .next (blockCp .up false s.fetch2)

/-- `INI` (ED A2), R408. -/
def execIni (s : State) : Outcome := .next (blockIn .up false s.fetch2)

/-- `OUTI` (ED A3), R412. -/
def execOuti (s : State) : Outcome := .next (blockOut .up false s.fetch2)

/-- `LDD` (ED A8), R401. -/
def execLdd (s : State) : Outcome := .next (blockLd .down false s.fetch2)

/-- `CPD` (ED A9), R405. -/
def execCpd (s : State) : Outcome := .next (blockCp .down false s.fetch2)

/-- `IND` (ED AA), R409. -/
def execInd (s : State) : Outcome := .next (blockIn .down false s.fetch2)

/-- `OUTD` (ED AB), R413. -/
def execOutd (s : State) : Outcome := .next (blockOut .down false s.fetch2)

/-- `LDIR` (ED B0), R402. -/
def execLdir (s : State) : Outcome := .next (blockLd .up true s.fetch2)

/-- `CPIR` (ED B1), R406. -/
def execCpir (s : State) : Outcome := .next (blockCp .up true s.fetch2)

/-- `INIR` (ED B2), R410. -/
def execInir (s : State) : Outcome := .next (blockIn .up true s.fetch2)

/-- `OTIR` (ED B3), R414. -/
def execOtir (s : State) : Outcome := .next (blockOut .up true s.fetch2)

/-- `LDDR` (ED B8), R403. -/
def execLddr (s : State) : Outcome := .next (blockLd .down true s.fetch2)

/-- `CPDR` (ED B9), R407. -/
def execCpdr (s : State) : Outcome := .next (blockCp .down true s.fetch2)

/-- `INDR` (ED BA), R411. -/
def execIndr (s : State) : Outcome := .next (blockIn .down true s.fetch2)

/-- `OTDR` (ED BB), R415. -/
def execOtdr (s : State) : Outcome := .next (blockOut .down true s.fetch2)

end Sys2Proof.Machine
end

