-- ==== Sys2Proof/Machine/Control.lean ====
section
/-! DEFINITION. Jumps, calls, returns, restarts, HALT, DI, EI and NOP (43_base_control.md R280 to R294). -/

namespace Sys2Proof.Machine

/-! ## Shared operations -/

/-- `NOP` (R280): nothing after the fetch. -/
def nop (s : State) : State := s

/-- `nn <- Imm16(); PC <- nn; MEMPTR <- nn` (R281). -/
def jp (s : State) : State := (s.imm16.setPc s.operand16).setMemptr s.operand16

/-- `nn <- Imm16(); MEMPTR <- nn; if cc[y] then PC <- nn` (R282). -/
def jpCond (cc : Cond) (s : State) : State :=
  let nn := s.operand16
  let t := s.imm16.setMemptr nn
  if cc.holds s.regs.f then t.setPc nn else t

/-- `PC <- pair`, no memory read (R283, R452). -/
def jpPair (p : Reg16) (s : State) : State := s.setPc (s.reg16 p)

/-- `RelJump(taken)` (43_base_control.md section 3). -/
def relJump (taken : Bool) (s : State) : State :=
  let t := s.operandRead
  if taken then
    let target := s.regs.pc + 1 + signExt s.operand
    ((t.contend s.regs.pc 1 5).setPc target).setMemptr target
  else t.advance

/-- `JR e` (R284). -/
def jr (s : State) : State := relJump true s

/-- `JR cc,e` (R285). -/
def jrCond (cc : Cond) (s : State) : State := relJump (cc.holds s.regs.f) s

/-- `Contend(IR, 1, 1); B <- B - 1; RelJump(B != 0)` (R286). -/
def djnz (s : State) : State :=
  relJump (s.regs.b - 1 != 0) ((s.contend s.ir 1 1).setReg8 .b (s.regs.b - 1))

/-- The two operand reads of a call: the low byte, then the high byte at `PC`, which stays there
(R287, R288). -/
def callOperand (s : State) : State := s.imm8.operandRead

/-- The taken call from the state in which `PC` is at the high operand byte (R287, R288). -/
def callTaken (nn : Word) (s : State) : State :=
  let t := (s.contend s.regs.pc 1 1).advance
  (t.push16 t.regs.pc).setPc nn

/-- `CALL nn` (R287). -/
def call (s : State) : State := (callTaken s.operand16 (callOperand s)).setMemptr s.operand16

/-- `CALL cc,nn`: `MEMPTR` is written in both cases (R288). -/
def callCond (cc : Cond) (s : State) : State :=
  let nn := s.operand16
  let t := (callOperand s).setMemptr nn
  if cc.holds s.regs.f then callTaken nn t else t.advance

/-- `RET` (R289). -/
def ret (s : State) : State := s.returnToCaller

/-- `Contend(IR, 1, 1); if cc[y] then` return (R290). -/
def retCond (cc : Cond) (s : State) : State :=
  let t := s.contend s.ir 1 1
  if cc.holds s.regs.f then t.returnToCaller else t

/-- `Contend(IR, 1, 1); Push16(PC); PC <- y * 8; MEMPTR <- PC` (R291). -/
def rst (target : Word) (s : State) : State :=
  (((s.contend s.ir 1 1).push16 s.regs.pc).setPc target).setMemptr target

/-- `halted <- true; PC <- PC - 1` (R292). -/
def halt (s : State) : State :=
  (s.setPc (s.regs.pc - 1)).setCtl { s.ctl with halted := true }

/-- `iff1 <- false; iff2 <- false` (R293). -/
def di (s : State) : State := s.setCtl { s.ctl with iff1 := false, iff2 := false }

/-- `iff1 <- true; iff2 <- true; eiJustExecuted <- true` (R294). -/
def ei (s : State) : State :=
  s.setCtl { s.ctl with iff1 := true, iff2 := true, eiJustExecuted := true }

/-! ## The instructions -/

/-- `NOP` (00), R280. -/
def execNop (s : State) : Outcome := .next (nop s.fetch)

/-- `DJNZ e` (10), R286. -/
def execDjnzRel (s : State) : Outcome := .next (djnz s.fetch)

/-- `JR e` (18), R284. -/
def execJrRel (s : State) : Outcome := .next (jr s.fetch)

/-- `JR NZ,e` (20), R285. -/
def execJrNZRel (s : State) : Outcome := .next (jrCond .nz s.fetch)

/-- `JR Z,e` (28), R285. -/
def execJrZRel (s : State) : Outcome := .next (jrCond .z s.fetch)

/-- `JR NC,e` (30), R285. -/
def execJrNCRel (s : State) : Outcome := .next (jrCond .nc s.fetch)

/-- `JR C,e` (38), R285. -/
def execJrCRel (s : State) : Outcome := .next (jrCond .c s.fetch)

/-- `HALT` (76), R292. -/
def execHalt (s : State) : Outcome := .next (halt s.fetch)

/-- `RET NZ` (C0), R290. -/
def execRetNZ (s : State) : Outcome := .next (retCond .nz s.fetch)

/-- `JP NZ,nn` (C2), R282. -/
def execJpNZImm16 (s : State) : Outcome := .next (jpCond .nz s.fetch)

/-- `JP nn` (C3), R281. -/
def execJpImm16 (s : State) : Outcome := .next (jp s.fetch)

/-- `CALL NZ,nn` (C4), R288. -/
def execCallNZImm16 (s : State) : Outcome := .next (callCond .nz s.fetch)

/-- `RST 00h` (C7), R291. -/
def execRst00 (s : State) : Outcome := .next (rst 0x00 s.fetch)

/-- `RET Z` (C8), R290. -/
def execRetZ (s : State) : Outcome := .next (retCond .z s.fetch)

/-- `RET` (C9), R289. -/
def execRet (s : State) : Outcome := .next (ret s.fetch)

/-- `JP Z,nn` (CA), R282. -/
def execJpZImm16 (s : State) : Outcome := .next (jpCond .z s.fetch)

/-- `CALL Z,nn` (CC), R288. -/
def execCallZImm16 (s : State) : Outcome := .next (callCond .z s.fetch)

/-- `CALL nn` (CD), R287. -/
def execCallImm16 (s : State) : Outcome := .next (call s.fetch)

/-- `RST 08h` (CF), R291. -/
def execRst08 (s : State) : Outcome := .next (rst 0x08 s.fetch)

/-- `RET NC` (D0), R290. -/
def execRetNC (s : State) : Outcome := .next (retCond .nc s.fetch)

/-- `JP NC,nn` (D2), R282. -/
def execJpNCImm16 (s : State) : Outcome := .next (jpCond .nc s.fetch)

/-- `CALL NC,nn` (D4), R288. -/
def execCallNCImm16 (s : State) : Outcome := .next (callCond .nc s.fetch)

/-- `RST 10h` (D7), R291. -/
def execRst10 (s : State) : Outcome := .next (rst 0x10 s.fetch)

/-- `RET C` (D8), R290. -/
def execRetC (s : State) : Outcome := .next (retCond .c s.fetch)

/-- `JP C,nn` (DA), R282. -/
def execJpCImm16 (s : State) : Outcome := .next (jpCond .c s.fetch)

/-- `CALL C,nn` (DC), R288. -/
def execCallCImm16 (s : State) : Outcome := .next (callCond .c s.fetch)

/-- `RST 18h` (DF), R291. -/
def execRst18 (s : State) : Outcome := .next (rst 0x18 s.fetch)

/-- `RET PO` (E0), R290. -/
def execRetPO (s : State) : Outcome := .next (retCond .po s.fetch)

/-- `JP PO,nn` (E2), R282. -/
def execJpPOImm16 (s : State) : Outcome := .next (jpCond .po s.fetch)

/-- `CALL PO,nn` (E4), R288. -/
def execCallPOImm16 (s : State) : Outcome := .next (callCond .po s.fetch)

/-- `RST 20h` (E7), R291. -/
def execRst20 (s : State) : Outcome := .next (rst 0x20 s.fetch)

/-- `RET PE` (E8), R290. -/
def execRetPE (s : State) : Outcome := .next (retCond .pe s.fetch)

/-- `JP (HL)` (E9), R283. -/
def execJpAtHL (s : State) : Outcome := .next (jpPair .hl s.fetch)

/-- `JP PE,nn` (EA), R282. -/
def execJpPEImm16 (s : State) : Outcome := .next (jpCond .pe s.fetch)

/-- `CALL PE,nn` (EC), R288. -/
def execCallPEImm16 (s : State) : Outcome := .next (callCond .pe s.fetch)

/-- `RST 28h` (EF), R291. -/
def execRst28 (s : State) : Outcome := .next (rst 0x28 s.fetch)

/-- `RET P` (F0), R290. -/
def execRetP (s : State) : Outcome := .next (retCond .p s.fetch)

/-- `JP P,nn` (F2), R282. -/
def execJpPImm16 (s : State) : Outcome := .next (jpCond .p s.fetch)

/-- `DI` (F3), R293. -/
def execDi (s : State) : Outcome := .next (di s.fetch)

/-- `CALL P,nn` (F4), R288. -/
def execCallPImm16 (s : State) : Outcome := .next (callCond .p s.fetch)

/-- `RST 30h` (F7), R291. -/
def execRst30 (s : State) : Outcome := .next (rst 0x30 s.fetch)

/-- `RET M` (F8), R290. -/
def execRetM (s : State) : Outcome := .next (retCond .m s.fetch)

/-- `JP M,nn` (FA), R282. -/
def execJpMImm16 (s : State) : Outcome := .next (jpCond .m s.fetch)

/-- `EI` (FB), R294. -/
def execEi (s : State) : Outcome := .next (ei s.fetch)

/-- `CALL M,nn` (FC), R288. -/
def execCallMImm16 (s : State) : Outcome := .next (callCond .m s.fetch)

/-- `RST 38h` (FF), R291. -/
def execRst38 (s : State) : Outcome := .next (rst 0x38 s.fetch)

end Sys2Proof.Machine
end

