-- ==== Sys2Proof/Machine/Exchange.lean ====
section
/-! DEFINITION. Exchanges (41_base_load_exchange.md R199 to R202). -/

namespace Sys2Proof.Machine

/-! ## Shared operations -/

/-- Swap `AF` with `AF'` (R199). -/
def exAF (s : State) : State :=
  ((s.setA s.shadow.a).setF s.shadow.f).setShadow { s.shadow with a := s.regs.a, f := s.regs.f }

/-- Swap `BC`, `DE`, `HL` with `BC'`, `DE'`, `HL'` (R200). -/
def exx (s : State) : State :=
  { s with
    regs := { s.regs with
      b := s.shadow.b, c := s.shadow.c, d := s.shadow.d, e := s.shadow.e, h := s.shadow.h, l := s.shadow.l }
    shadow := { s.shadow with
      b := s.regs.b, c := s.regs.c, d := s.regs.d, e := s.regs.e, h := s.regs.h, l := s.regs.l } }

/-- Swap `DE` with `HL` (R201). -/
def exDEHL (s : State) : State := (s.setReg16 .de (s.reg16 .hl)).setReg16 .hl (s.reg16 .de)

/-- Swap a pair with the word at `SP`; `MEMPTR` takes the word (R202, R451). -/
def exSpPair (p : Reg16) (s : State) : State :=
  let sp := s.regs.sp
  let w := s.peek16 sp
  let t := (s.memRead16 sp).contend (sp + 1) 1 1
  let u := (t.memWrite (sp + 1) (hiByte (s.reg16 p))).memWrite sp (loByte (s.reg16 p))
  ((u.contend sp 1 2).setReg16 p w).setMemptr w

/-! ## The instructions -/

/-- `EX AF,AF'` (08), R199. -/
def execExAFAFAlt (s : State) : Outcome := .next (exAF s.fetch)

/-- `EXX` (D9), R200. -/
def execExx (s : State) : Outcome := .next (exx s.fetch)

/-- `EX (SP),HL` (E3), R202. -/
def execExAtSPHL (s : State) : Outcome := .next (exSpPair .hl s.fetch)

/-- `EX DE,HL` (EB), R201. -/
def execExDEHL (s : State) : Outcome := .next (exDEHL s.fetch)

end Sys2Proof.Machine
end

