-- ==== Sys2Proof/Machine/Load.lean ====
section
/-! DEFINITION. Base-table loads, PUSH and POP (41_base_load_exchange.md R182 to R198). Each shared operation
takes the state after the opcode's fetches; the pair operations also serve the ED loads (R356, R357) and
list P of the index instructions (R432 to R453). -/

namespace Sys2Proof.Machine

/-! ## Shared operations -/

/-- `r8[y] <- r8[z]` (R182, R446). -/
def ldRegReg (x y : Reg8) (s : State) : State := s.setReg8 x (s.reg8 y)

/-- `r8[y] <- Imm8()` (R183, R440). -/
def ldRegImm (x : Reg8) (s : State) : State := s.imm8.setReg8 x s.operand

/-- `r8[y] <- MemRead(HL, 1)`, read with the old `HL` (R184). -/
def ldRegMem (x : Reg8) (s : State) : State :=
  (s.memRead (s.reg16 .hl)).setReg8 x (s.peek (s.reg16 .hl))

/-- `MemWrite(HL, 1, r8[z])` (R185). -/
def stMemReg (x : Reg8) (s : State) : State := s.memWrite (s.reg16 .hl) (s.reg8 x)

/-- `n <- Imm8(); MemWrite(HL, 1, n)` (R186). -/
def stMemImm (s : State) : State := s.imm8.memWrite (s.reg16 .hl) s.operand

/-- `A <- MemRead(pair, 1); MEMPTR <- pair + 1` (R187, R188). -/
def ldAPtr (p : Reg16) (s : State) : State :=
  ((s.memRead (s.reg16 p)).setA (s.peek (s.reg16 p))).setMemptr (s.reg16 p + 1)

/-- `nn <- Imm16(); A <- MemRead(nn, 1); MEMPTR <- nn + 1` (R189). -/
def ldAAbs (s : State) : State :=
  let nn := s.operand16
  ((s.imm16.memRead nn).setA (s.peek nn)).setMemptr (nn + 1)

/-- `{A, (low + 1)[7:0]}`: what a store of `A` at an address leaves in `MEMPTR` (R190, R192, R204). -/
def memptrAfterStA (a low : Byte) : Word := mkWord a (low + 1)

/-- `MemWrite(pair, 1, A); MEMPTR <- {A, (low + 1)[7:0]}` (R190, R191). -/
def stAPtr (p : Reg16) (s : State) : State :=
  (s.memWrite (s.reg16 p) s.regs.a).setMemptr (memptrAfterStA s.regs.a (loByte (s.reg16 p)))

/-- `nn <- Imm16(); MemWrite(nn, 1, A); MEMPTR <- {A, (nn + 1)[7:0]}` (R192). -/
def stAAbs (s : State) : State :=
  let nn := s.operand16
  (s.imm16.memWrite nn s.regs.a).setMemptr (memptrAfterStA s.regs.a (loByte nn))

/-- `rp[p] <- Imm16()` (R193, R433). -/
def ldPairImm (p : Reg16) (s : State) : State := s.imm16.setReg16 p s.operand16

/-- `nn <- Imm16(); rp[p] <- MemRead(nn, 2); MEMPTR <- nn + 1` (R194, R357, R435). -/
def ldPairAbs (p : Reg16) (s : State) : State :=
  let nn := s.operand16
  ((s.imm16.memRead16 nn).setReg16 p (s.peek16 nn)).setMemptr (nn + 1)

/-- `nn <- Imm16(); MemWrite(nn, 2, rp[p]); MEMPTR <- nn + 1` (R195, R356, R434). -/
def stPairAbs (p : Reg16) (s : State) : State :=
  let nn := s.operand16
  (s.imm16.memWrite16 nn (s.reg16 p)).setMemptr (nn + 1)

/-- `Contend(IR, 1, 2); SP <- pair` (R196, R453). -/
def ldSpPair (p : Reg16) (s : State) : State := (s.contend s.ir 1 2).setSp (s.reg16 p)

/-- `Contend(IR, 1, 1); Push16(pair)` (R197, R450). -/
def pushPair (p : Reg16) (s : State) : State := (s.contend s.ir 1 1).push16 (s.reg16 p)

/-- `pair <- Pop16()` (R198, R449). -/
def popPair (p : Reg16) (s : State) : State := s.pop16.setReg16 p s.top16

/-! ## The instructions -/

/-- `LD BC,nn` (01), R193. -/
def execLdBCImm16 (s : State) : Outcome := .next (ldPairImm .bc s.fetch)

/-- `LD (BC),A` (02), R190. -/
def execLdAtBCA (s : State) : Outcome := .next (stAPtr .bc s.fetch)

/-- `LD B,n` (06), R183. -/
def execLdBImm (s : State) : Outcome := .next (ldRegImm .b s.fetch)

/-- `LD A,(BC)` (0A), R187. -/
def execLdAAtBC (s : State) : Outcome := .next (ldAPtr .bc s.fetch)

/-- `LD C,n` (0E), R183. -/
def execLdCImm (s : State) : Outcome := .next (ldRegImm .c s.fetch)

/-- `LD DE,nn` (11), R193. -/
def execLdDEImm16 (s : State) : Outcome := .next (ldPairImm .de s.fetch)

/-- `LD (DE),A` (12), R191. -/
def execLdAtDEA (s : State) : Outcome := .next (stAPtr .de s.fetch)

/-- `LD D,n` (16), R183. -/
def execLdDImm (s : State) : Outcome := .next (ldRegImm .d s.fetch)

/-- `LD A,(DE)` (1A), R188. -/
def execLdAAtDE (s : State) : Outcome := .next (ldAPtr .de s.fetch)

/-- `LD E,n` (1E), R183. -/
def execLdEImm (s : State) : Outcome := .next (ldRegImm .e s.fetch)

/-- `LD HL,nn` (21), R193. -/
def execLdHLImm16 (s : State) : Outcome := .next (ldPairImm .hl s.fetch)

/-- `LD (nn),HL` (22), R195. -/
def execLdAtAbsHL (s : State) : Outcome := .next (stPairAbs .hl s.fetch)

/-- `LD H,n` (26), R183. -/
def execLdHImm (s : State) : Outcome := .next (ldRegImm .h s.fetch)

/-- `LD HL,(nn)` (2A), R194. -/
def execLdHLAtAbs (s : State) : Outcome := .next (ldPairAbs .hl s.fetch)

/-- `LD L,n` (2E), R183. -/
def execLdLImm (s : State) : Outcome := .next (ldRegImm .l s.fetch)

/-- `LD SP,nn` (31), R193. -/
def execLdSPImm16 (s : State) : Outcome := .next (ldPairImm .sp s.fetch)

/-- `LD (nn),A` (32), R192. -/
def execLdAtAbsA (s : State) : Outcome := .next (stAAbs s.fetch)

/-- `LD (HL),n` (36), R186. -/
def execLdAtHLImm (s : State) : Outcome := .next (stMemImm s.fetch)

/-- `LD A,(nn)` (3A), R189. -/
def execLdAAtAbs (s : State) : Outcome := .next (ldAAbs s.fetch)

/-- `LD A,n` (3E), R183. -/
def execLdAImm (s : State) : Outcome := .next (ldRegImm .a s.fetch)

/-- `LD B,B` (40), R182. -/
def execLdBB (s : State) : Outcome := .next (ldRegReg .b .b s.fetch)

/-- `LD B,C` (41), R182. -/
def execLdBC (s : State) : Outcome := .next (ldRegReg .b .c s.fetch)

/-- `LD B,D` (42), R182. -/
def execLdBD (s : State) : Outcome := .next (ldRegReg .b .d s.fetch)

/-- `LD B,E` (43), R182. -/
def execLdBE (s : State) : Outcome := .next (ldRegReg .b .e s.fetch)

/-- `LD B,H` (44), R182. -/
def execLdBH (s : State) : Outcome := .next (ldRegReg .b .h s.fetch)

/-- `LD B,L` (45), R182. -/
def execLdBL (s : State) : Outcome := .next (ldRegReg .b .l s.fetch)

/-- `LD B,(HL)` (46), R184. -/
def execLdBAtHL (s : State) : Outcome := .next (ldRegMem .b s.fetch)

/-- `LD B,A` (47), R182. -/
def execLdBA (s : State) : Outcome := .next (ldRegReg .b .a s.fetch)

/-- `LD C,B` (48), R182. -/
def execLdCB (s : State) : Outcome := .next (ldRegReg .c .b s.fetch)

/-- `LD C,C` (49), R182. -/
def execLdCC (s : State) : Outcome := .next (ldRegReg .c .c s.fetch)

/-- `LD C,D` (4A), R182. -/
def execLdCD (s : State) : Outcome := .next (ldRegReg .c .d s.fetch)

/-- `LD C,E` (4B), R182. -/
def execLdCE (s : State) : Outcome := .next (ldRegReg .c .e s.fetch)

/-- `LD C,H` (4C), R182. -/
def execLdCH (s : State) : Outcome := .next (ldRegReg .c .h s.fetch)

/-- `LD C,L` (4D), R182. -/
def execLdCL (s : State) : Outcome := .next (ldRegReg .c .l s.fetch)

/-- `LD C,(HL)` (4E), R184. -/
def execLdCAtHL (s : State) : Outcome := .next (ldRegMem .c s.fetch)

/-- `LD C,A` (4F), R182. -/
def execLdCA (s : State) : Outcome := .next (ldRegReg .c .a s.fetch)

/-- `LD D,B` (50), R182. -/
def execLdDB (s : State) : Outcome := .next (ldRegReg .d .b s.fetch)

/-- `LD D,C` (51), R182. -/
def execLdDC (s : State) : Outcome := .next (ldRegReg .d .c s.fetch)

/-- `LD D,D` (52), R182. -/
def execLdDD (s : State) : Outcome := .next (ldRegReg .d .d s.fetch)

/-- `LD D,E` (53), R182. -/
def execLdDE (s : State) : Outcome := .next (ldRegReg .d .e s.fetch)

/-- `LD D,H` (54), R182. -/
def execLdDH (s : State) : Outcome := .next (ldRegReg .d .h s.fetch)

/-- `LD D,L` (55), R182. -/
def execLdDL (s : State) : Outcome := .next (ldRegReg .d .l s.fetch)

/-- `LD D,(HL)` (56), R184. -/
def execLdDAtHL (s : State) : Outcome := .next (ldRegMem .d s.fetch)

/-- `LD D,A` (57), R182. -/
def execLdDA (s : State) : Outcome := .next (ldRegReg .d .a s.fetch)

/-- `LD E,B` (58), R182. -/
def execLdEB (s : State) : Outcome := .next (ldRegReg .e .b s.fetch)

/-- `LD E,C` (59), R182. -/
def execLdEC (s : State) : Outcome := .next (ldRegReg .e .c s.fetch)

/-- `LD E,D` (5A), R182. -/
def execLdED (s : State) : Outcome := .next (ldRegReg .e .d s.fetch)

/-- `LD E,E` (5B), R182. -/
def execLdEE (s : State) : Outcome := .next (ldRegReg .e .e s.fetch)

/-- `LD E,H` (5C), R182. -/
def execLdEH (s : State) : Outcome := .next (ldRegReg .e .h s.fetch)

/-- `LD E,L` (5D), R182. -/
def execLdEL (s : State) : Outcome := .next (ldRegReg .e .l s.fetch)

/-- `LD E,(HL)` (5E), R184. -/
def execLdEAtHL (s : State) : Outcome := .next (ldRegMem .e s.fetch)

/-- `LD E,A` (5F), R182. -/
def execLdEA (s : State) : Outcome := .next (ldRegReg .e .a s.fetch)

/-- `LD H,B` (60), R182. -/
def execLdHB (s : State) : Outcome := .next (ldRegReg .h .b s.fetch)

/-- `LD H,C` (61), R182. -/
def execLdHC (s : State) : Outcome := .next (ldRegReg .h .c s.fetch)

/-- `LD H,D` (62), R182. -/
def execLdHD (s : State) : Outcome := .next (ldRegReg .h .d s.fetch)

/-- `LD H,E` (63), R182. -/
def execLdHE (s : State) : Outcome := .next (ldRegReg .h .e s.fetch)

/-- `LD H,H` (64), R182. -/
def execLdHH (s : State) : Outcome := .next (ldRegReg .h .h s.fetch)

/-- `LD H,L` (65), R182. -/
def execLdHL (s : State) : Outcome := .next (ldRegReg .h .l s.fetch)

/-- `LD H,(HL)` (66), R184. -/
def execLdHAtHL (s : State) : Outcome := .next (ldRegMem .h s.fetch)

/-- `LD H,A` (67), R182. -/
def execLdHA (s : State) : Outcome := .next (ldRegReg .h .a s.fetch)

/-- `LD L,B` (68), R182. -/
def execLdLB (s : State) : Outcome := .next (ldRegReg .l .b s.fetch)

/-- `LD L,C` (69), R182. -/
def execLdLC (s : State) : Outcome := .next (ldRegReg .l .c s.fetch)

/-- `LD L,D` (6A), R182. -/
def execLdLD (s : State) : Outcome := .next (ldRegReg .l .d s.fetch)

/-- `LD L,E` (6B), R182. -/
def execLdLE (s : State) : Outcome := .next (ldRegReg .l .e s.fetch)

/-- `LD L,H` (6C), R182. -/
def execLdLH (s : State) : Outcome := .next (ldRegReg .l .h s.fetch)

/-- `LD L,L` (6D), R182. -/
def execLdLL (s : State) : Outcome := .next (ldRegReg .l .l s.fetch)

/-- `LD L,(HL)` (6E), R184. -/
def execLdLAtHL (s : State) : Outcome := .next (ldRegMem .l s.fetch)

/-- `LD L,A` (6F), R182. -/
def execLdLA (s : State) : Outcome := .next (ldRegReg .l .a s.fetch)

/-- `LD (HL),B` (70), R185. -/
def execLdAtHLB (s : State) : Outcome := .next (stMemReg .b s.fetch)

/-- `LD (HL),C` (71), R185. -/
def execLdAtHLC (s : State) : Outcome := .next (stMemReg .c s.fetch)

/-- `LD (HL),D` (72), R185. -/
def execLdAtHLD (s : State) : Outcome := .next (stMemReg .d s.fetch)

/-- `LD (HL),E` (73), R185. -/
def execLdAtHLE (s : State) : Outcome := .next (stMemReg .e s.fetch)

/-- `LD (HL),H` (74), R185. -/
def execLdAtHLH (s : State) : Outcome := .next (stMemReg .h s.fetch)

/-- `LD (HL),L` (75), R185. -/
def execLdAtHLL (s : State) : Outcome := .next (stMemReg .l s.fetch)

/-- `LD (HL),A` (77), R185. -/
def execLdAtHLA (s : State) : Outcome := .next (stMemReg .a s.fetch)

/-- `LD A,B` (78), R182. -/
def execLdAB (s : State) : Outcome := .next (ldRegReg .a .b s.fetch)

/-- `LD A,C` (79), R182. -/
def execLdAC (s : State) : Outcome := .next (ldRegReg .a .c s.fetch)

/-- `LD A,D` (7A), R182. -/
def execLdAD (s : State) : Outcome := .next (ldRegReg .a .d s.fetch)

/-- `LD A,E` (7B), R182. -/
def execLdAE (s : State) : Outcome := .next (ldRegReg .a .e s.fetch)

/-- `LD A,H` (7C), R182. -/
def execLdAH (s : State) : Outcome := .next (ldRegReg .a .h s.fetch)

/-- `LD A,L` (7D), R182. -/
def execLdAL (s : State) : Outcome := .next (ldRegReg .a .l s.fetch)

/-- `LD A,(HL)` (7E), R184. -/
def execLdAAtHL (s : State) : Outcome := .next (ldRegMem .a s.fetch)

/-- `LD A,A` (7F), R182. -/
def execLdAA (s : State) : Outcome := .next (ldRegReg .a .a s.fetch)

/-- `POP BC` (C1), R198. -/
def execPopBC (s : State) : Outcome := .next (popPair .bc s.fetch)

/-- `PUSH BC` (C5), R197. -/
def execPushBC (s : State) : Outcome := .next (pushPair .bc s.fetch)

/-- `POP DE` (D1), R198. -/
def execPopDE (s : State) : Outcome := .next (popPair .de s.fetch)

/-- `PUSH DE` (D5), R197. -/
def execPushDE (s : State) : Outcome := .next (pushPair .de s.fetch)

/-- `POP HL` (E1), R198. -/
def execPopHL (s : State) : Outcome := .next (popPair .hl s.fetch)

/-- `PUSH HL` (E5), R197. -/
def execPushHL (s : State) : Outcome := .next (pushPair .hl s.fetch)

/-- `POP AF` (F1), R198. -/
def execPopAF (s : State) : Outcome := .next (popPair .af s.fetch)

/-- `PUSH AF` (F5), R197. -/
def execPushAF (s : State) : Outcome := .next (pushPair .af s.fetch)

/-- `LD SP,HL` (F9), R196. -/
def execLdSPHL (s : State) : Outcome := .next (ldSpPair .hl s.fetch)

end Sys2Proof.Machine
end

