-- ==== Sys2Proof/Machine/Extended.lean ====
section
/-! DEFINITION. The ED table less the block instructions (45_ed.md R350 to R368). -/

namespace Sys2Proof.Machine

/-! ## Shared operations -/

/-- `MEMPTR <- BC + 1; v <- IoRead(BC)`, then `F`; the byte read is `s.portByte` of `BC` (R350, R351). -/
def inC (s : State) : State :=
  let port := s.reg16 .bc
  ((s.setMemptr (port + 1)).portRead port).setF (inFlags (s.portByte port) s.regs.f)

/-- `IN r,(C)` (R350). -/
def inRegC (x : Reg8) (s : State) : State := (inC s).setReg8 x (s.portByte (s.reg16 .bc))

/-- `IoWrite(BC, v); MEMPTR <- BC + 1` (R352, R353). -/
def outC (v : Byte) (s : State) : State := (s.portWrite (s.reg16 .bc) v).setMemptr (s.reg16 .bc + 1)

/-- `OUT (C),r` (R352). -/
def outCReg (x : Reg8) (s : State) : State := outC (s.reg8 x) s

/-- `OUT (C),0` (R353, P9). -/
def outCZero (s : State) : State := outC s.platform.outCZeroValue s

/-- `Contend(IR, 1, 7); sbc16(rp[p])` (R354, R156). -/
def sbcHL (p : Reg16) (s : State) : State :=
  let o := sbc16 (s.reg16 .hl) (s.reg16 p) s.regs.f
  (((s.contend s.ir 1 7).setMemptr (s.reg16 .hl + 1)).setF o.flags).setReg16 .hl o.res

/-- `Contend(IR, 1, 7); adc16(rp[p])` (R355, R155). -/
def adcHL (p : Reg16) (s : State) : State :=
  let o := adc16 (s.reg16 .hl) (s.reg16 p) s.regs.f
  (((s.contend s.ir 1 7).setMemptr (s.reg16 .hl + 1)).setF o.flags).setReg16 .hl o.res

/-- `v <- A; A <- 0; sub8(v, 0)` (R358). -/
def neg (s : State) : State :=
  let o := sub8 0 s.regs.a false
  (s.setA o.res).setF o.flags

/-- `RETN` (R359). -/
def retn (s : State) : State := s.returnFromInterrupt

/-- `RETI` (R360, D29). -/
def reti (s : State) : State := s.returnFromInterrupt

/-- `interruptMode <- m` (R361). -/
def setMode (m : IntMode) (s : State) : State := s.setCtl { s.ctl with interruptMode := m }

/-- `Contend(IR, 1, 1); I <- A` (R362). -/
def ldIA (s : State) : State := (s.contend s.ir 1 1).setReg8 .i s.regs.a

/-- `Contend(IR, 1, 1); R <- A`, all eight bits (R363). -/
def ldRA (s : State) : State := (s.contend s.ir 1 1).setReg8 .r s.regs.a

/-- `LD A,I` and `LD A,R`: `v` to `A`, `PV <- iff2` (R364, R365, D20). -/
def ldAFrom (v : Byte) (s : State) : State :=
  ((s.contend s.ir 1 1).setA v).setF (ldAIFlags v s.regs.f s.ctl.iff2)

/-- `LD A,I` (R364). -/
def ldAI (s : State) : State := ldAFrom s.regs.i s

/-- `LD A,R` (R365). -/
def ldAR (s : State) : State := ldAFrom s.regs.r s

/-- The nibble rotates: store `m` at `HL`, load `A` with `a` (R366, R367). -/
def rotateDigit (m a : Byte) (s : State) : State :=
  let hl := s.reg16 .hl
  let t := ((s.memRead hl).contend hl 1 4).memWrite hl m
  ((t.setA a).setF (inFlags a s.regs.f)).setMemptr (hl + 1)

/-- `RRD` (R366). -/
def rrd (s : State) : State :=
  let t := s.peek (s.reg16 .hl)
  rotateDigit ((s.regs.a <<< 4) ||| (t >>> 4)) ((s.regs.a &&& 0xF0) ||| (t &&& 0x0F)) s

/-- `RLD` (R367). -/
def rld (s : State) : State :=
  let t := s.peek (s.reg16 .hl)
  rotateDigit ((t <<< 4) ||| (s.regs.a &&& 0x0F)) ((s.regs.a &&& (0xF0 : Byte)) ||| (t >>> 4)) s

/-! ## The instructions -/

/-- `NOP (ED no-op)` (ED, 178 second bytes), R368. -/
def execNopEd (s : State) : Outcome := .next (nop s.fetch2)

/-- `NEG` (ED 44 4C 54 5C 64 6C 74 7C), R358. -/
def execNeg (s : State) : Outcome := .next (neg s.fetch2)

/-- `RETN` (ED 45 55 5D 65 6D 75 7D), R359. -/
def execRetn (s : State) : Outcome := .next (retn s.fetch2)

/-- `IM 0` (ED 46 4E 66 6E), R361. -/
def execIm0 (s : State) : Outcome := .next (setMode .im0 s.fetch2)

/-- `IM 1` (ED 56, ED 76), R361. -/
def execIm1 (s : State) : Outcome := .next (setMode .im1 s.fetch2)

/-- `IM 2` (ED 5E, ED 7E), R361. -/
def execIm2 (s : State) : Outcome := .next (setMode .im2 s.fetch2)

/-- `IN B,(C)` (ED 40), R350. -/
def execInBAtC (s : State) : Outcome := .next (inRegC .b s.fetch2)

/-- `OUT (C),B` (ED 41), R352. -/
def execOutAtCB (s : State) : Outcome := .next (outCReg .b s.fetch2)

/-- `SBC HL,BC` (ED 42), R354. -/
def execSbcHLBC (s : State) : Outcome := .next (sbcHL .bc s.fetch2)

/-- `LD (nn),BC` (ED 43), R356. -/
def execLdAtAbsBC (s : State) : Outcome := .next (stPairAbs .bc s.fetch2)

/-- `LD I,A` (ED 47), R362. -/
def execLdIA (s : State) : Outcome := .next (ldIA s.fetch2)

/-- `IN C,(C)` (ED 48), R350. -/
def execInCAtC (s : State) : Outcome := .next (inRegC .c s.fetch2)

/-- `OUT (C),C` (ED 49), R352. -/
def execOutAtCC (s : State) : Outcome := .next (outCReg .c s.fetch2)

/-- `ADC HL,BC` (ED 4A), R355. -/
def execAdcHLBC (s : State) : Outcome := .next (adcHL .bc s.fetch2)

/-- `LD BC,(nn)` (ED 4B), R357. -/
def execLdBCAtAbs (s : State) : Outcome := .next (ldPairAbs .bc s.fetch2)

/-- `RETI` (ED 4D), R360. -/
def execReti (s : State) : Outcome := .next (reti s.fetch2)

/-- `LD R,A` (ED 4F), R363. -/
def execLdRA (s : State) : Outcome := .next (ldRA s.fetch2)

/-- `IN D,(C)` (ED 50), R350. -/
def execInDAtC (s : State) : Outcome := .next (inRegC .d s.fetch2)

/-- `OUT (C),D` (ED 51), R352. -/
def execOutAtCD (s : State) : Outcome := .next (outCReg .d s.fetch2)

/-- `SBC HL,DE` (ED 52), R354. -/
def execSbcHLDE (s : State) : Outcome := .next (sbcHL .de s.fetch2)

/-- `LD (nn),DE` (ED 53), R356. -/
def execLdAtAbsDE (s : State) : Outcome := .next (stPairAbs .de s.fetch2)

/-- `LD A,I` (ED 57), R364. -/
def execLdAI (s : State) : Outcome := .next (ldAI s.fetch2)

/-- `IN E,(C)` (ED 58), R350. -/
def execInEAtC (s : State) : Outcome := .next (inRegC .e s.fetch2)

/-- `OUT (C),E` (ED 59), R352. -/
def execOutAtCE (s : State) : Outcome := .next (outCReg .e s.fetch2)

/-- `ADC HL,DE` (ED 5A), R355. -/
def execAdcHLDE (s : State) : Outcome := .next (adcHL .de s.fetch2)

/-- `LD DE,(nn)` (ED 5B), R357. -/
def execLdDEAtAbs (s : State) : Outcome := .next (ldPairAbs .de s.fetch2)

/-- `LD A,R` (ED 5F), R365. -/
def execLdAR (s : State) : Outcome := .next (ldAR s.fetch2)

/-- `IN H,(C)` (ED 60), R350. -/
def execInHAtC (s : State) : Outcome := .next (inRegC .h s.fetch2)

/-- `OUT (C),H` (ED 61), R352. -/
def execOutAtCH (s : State) : Outcome := .next (outCReg .h s.fetch2)

/-- `SBC HL,HL` (ED 62), R354. -/
def execSbcHLHL (s : State) : Outcome := .next (sbcHL .hl s.fetch2)

/-- `LD (nn),HL` (ED 63), R356. -/
def execLdAtAbsHLEd (s : State) : Outcome := .next (stPairAbs .hl s.fetch2)

/-- `RRD` (ED 67), R366. -/
def execRrd (s : State) : Outcome := .next (rrd s.fetch2)

/-- `IN L,(C)` (ED 68), R350. -/
def execInLAtC (s : State) : Outcome := .next (inRegC .l s.fetch2)

/-- `OUT (C),L` (ED 69), R352. -/
def execOutAtCL (s : State) : Outcome := .next (outCReg .l s.fetch2)

/-- `ADC HL,HL` (ED 6A), R355. -/
def execAdcHLHL (s : State) : Outcome := .next (adcHL .hl s.fetch2)

/-- `LD HL,(nn)` (ED 6B), R357. -/
def execLdHLAtAbsEd (s : State) : Outcome := .next (ldPairAbs .hl s.fetch2)

/-- `RLD` (ED 6F), R367. -/
def execRld (s : State) : Outcome := .next (rld s.fetch2)

/-- `IN (C)` (ED 70), R351. -/
def execInAtC (s : State) : Outcome := .next (inC s.fetch2)

/-- `OUT (C),0` (ED 71), R353. -/
def execOutAtC0 (s : State) : Outcome := .next (outCZero s.fetch2)

/-- `SBC HL,SP` (ED 72), R354. -/
def execSbcHLSP (s : State) : Outcome := .next (sbcHL .sp s.fetch2)

/-- `LD (nn),SP` (ED 73), R356. -/
def execLdAtAbsSP (s : State) : Outcome := .next (stPairAbs .sp s.fetch2)

/-- `IN A,(C)` (ED 78), R350. -/
def execInAAtC (s : State) : Outcome := .next (inRegC .a s.fetch2)

/-- `OUT (C),A` (ED 79), R352. -/
def execOutAtCA (s : State) : Outcome := .next (outCReg .a s.fetch2)

/-- `ADC HL,SP` (ED 7A), R355. -/
def execAdcHLSP (s : State) : Outcome := .next (adcHL .sp s.fetch2)

/-- `LD SP,(nn)` (ED 7B), R357. -/
def execLdSPAtAbs (s : State) : Outcome := .next (ldPairAbs .sp s.fetch2)

end Sys2Proof.Machine
end

