-- ==== Sys2Proof/Machine/Index.lean ====
section
/-! DEFINITION. The DD and FD tables: lists P, H and M (47_ddfd.md R430 to R453). Lists P and H are the base
operations on the index register or its halves. -/

namespace Sys2Proof.Machine

/-! ## Shared operations of list M -/

/-- `INC (ii+d)` (R441). -/
def incIdx (ii : Idx) (s : State) : State :=
  modifyMem (s.indexed ii) (inc8 (s.peek (s.indexed ii)) s.regs.f) (s.effectiveAddress ii)

/-- `DEC (ii+d)` (R442). -/
def decIdx (ii : Idx) (s : State) : State :=
  modifyMem (s.indexed ii) (dec8 (s.peek (s.indexed ii)) s.regs.f) (s.effectiveAddress ii)

/-- `LD (ii+d),n`: the displacement, the immediate, two T-states at its address, the store (R443). -/
def stIdxImm (ii : Idx) (s : State) : State :=
  let t := s.imm8
  let u := (t.operandRead.contend t.regs.pc 1 2).advance
  (u.setMemptr (s.indexed ii)).memWrite (s.indexed ii) t.operand

/-- `LD r,(ii+d)` (R444). -/
def ldRegIdx (x : Reg8) (ii : Idx) (s : State) : State :=
  ((s.effectiveAddress ii).memRead (s.indexed ii)).setReg8 x (s.peek (s.indexed ii))

/-- `LD (ii+d),r` (R445). -/
def stIdxReg (x : Reg8) (ii : Idx) (s : State) : State :=
  (s.effectiveAddress ii).memWrite (s.indexed ii) (s.reg8 x)

/-- `alu[y] (ii+d)` (R448). -/
def aluIdx (op : AluOp) (ii : Idx) (s : State) : State :=
  accumulate op (s.peek (s.indexed ii)) ((s.effectiveAddress ii).memRead (s.indexed ii))

/-! ## The instructions -/

/-- `ADD IX,BC` (DD 09), R432. -/
def execAddIXBC (s : State) : Outcome := .next (addPair .ix .bc s.fetch2)

/-- `ADD IX,DE` (DD 19), R432. -/
def execAddIXDE (s : State) : Outcome := .next (addPair .ix .de s.fetch2)

/-- `LD IX,nn` (DD 21), R433. -/
def execLdIXImm16 (s : State) : Outcome := .next (ldPairImm .ix s.fetch2)

/-- `LD (nn),IX` (DD 22), R434. -/
def execLdAtAbsIX (s : State) : Outcome := .next (stPairAbs .ix s.fetch2)

/-- `INC IX` (DD 23), R436. -/
def execIncIX (s : State) : Outcome := .next (incPair .ix s.fetch2)

/-- `INC IXH` (DD 24), R438. -/
def execIncIXH (s : State) : Outcome := .next (incReg .ixh s.fetch2)

/-- `DEC IXH` (DD 25), R439. -/
def execDecIXH (s : State) : Outcome := .next (decReg .ixh s.fetch2)

/-- `LD IXH,n` (DD 26), R440. -/
def execLdIXHImm (s : State) : Outcome := .next (ldRegImm .ixh s.fetch2)

/-- `ADD IX,IX` (DD 29), R432. -/
def execAddIXIX (s : State) : Outcome := .next (addPair .ix .ix s.fetch2)

/-- `LD IX,(nn)` (DD 2A), R435. -/
def execLdIXAtAbs (s : State) : Outcome := .next (ldPairAbs .ix s.fetch2)

/-- `DEC IX` (DD 2B), R437. -/
def execDecIX (s : State) : Outcome := .next (decPair .ix s.fetch2)

/-- `INC IXL` (DD 2C), R438. -/
def execIncIXL (s : State) : Outcome := .next (incReg .ixl s.fetch2)

/-- `DEC IXL` (DD 2D), R439. -/
def execDecIXL (s : State) : Outcome := .next (decReg .ixl s.fetch2)

/-- `LD IXL,n` (DD 2E), R440. -/
def execLdIXLImm (s : State) : Outcome := .next (ldRegImm .ixl s.fetch2)

/-- `INC (IX+d)` (DD 34), R441. -/
def execIncAtIXd (s : State) : Outcome := .next (incIdx .ix s.fetch2)

/-- `DEC (IX+d)` (DD 35), R442. -/
def execDecAtIXd (s : State) : Outcome := .next (decIdx .ix s.fetch2)

/-- `LD (IX+d),n` (DD 36), R443. -/
def execLdAtIXdImm (s : State) : Outcome := .next (stIdxImm .ix s.fetch2)

/-- `ADD IX,SP` (DD 39), R432. -/
def execAddIXSP (s : State) : Outcome := .next (addPair .ix .sp s.fetch2)

/-- `LD B,IXH` (DD 44), R446. -/
def execLdBIXH (s : State) : Outcome := .next (ldRegReg .b .ixh s.fetch2)

/-- `LD B,IXL` (DD 45), R446. -/
def execLdBIXL (s : State) : Outcome := .next (ldRegReg .b .ixl s.fetch2)

/-- `LD B,(IX+d)` (DD 46), R444. -/
def execLdBAtIXd (s : State) : Outcome := .next (ldRegIdx .b .ix s.fetch2)

/-- `LD C,IXH` (DD 4C), R446. -/
def execLdCIXH (s : State) : Outcome := .next (ldRegReg .c .ixh s.fetch2)

/-- `LD C,IXL` (DD 4D), R446. -/
def execLdCIXL (s : State) : Outcome := .next (ldRegReg .c .ixl s.fetch2)

/-- `LD C,(IX+d)` (DD 4E), R444. -/
def execLdCAtIXd (s : State) : Outcome := .next (ldRegIdx .c .ix s.fetch2)

/-- `LD D,IXH` (DD 54), R446. -/
def execLdDIXH (s : State) : Outcome := .next (ldRegReg .d .ixh s.fetch2)

/-- `LD D,IXL` (DD 55), R446. -/
def execLdDIXL (s : State) : Outcome := .next (ldRegReg .d .ixl s.fetch2)

/-- `LD D,(IX+d)` (DD 56), R444. -/
def execLdDAtIXd (s : State) : Outcome := .next (ldRegIdx .d .ix s.fetch2)

/-- `LD E,IXH` (DD 5C), R446. -/
def execLdEIXH (s : State) : Outcome := .next (ldRegReg .e .ixh s.fetch2)

/-- `LD E,IXL` (DD 5D), R446. -/
def execLdEIXL (s : State) : Outcome := .next (ldRegReg .e .ixl s.fetch2)

/-- `LD E,(IX+d)` (DD 5E), R444. -/
def execLdEAtIXd (s : State) : Outcome := .next (ldRegIdx .e .ix s.fetch2)

/-- `LD IXH,B` (DD 60), R446. -/
def execLdIXHB (s : State) : Outcome := .next (ldRegReg .ixh .b s.fetch2)

/-- `LD IXH,C` (DD 61), R446. -/
def execLdIXHC (s : State) : Outcome := .next (ldRegReg .ixh .c s.fetch2)

/-- `LD IXH,D` (DD 62), R446. -/
def execLdIXHD (s : State) : Outcome := .next (ldRegReg .ixh .d s.fetch2)

/-- `LD IXH,E` (DD 63), R446. -/
def execLdIXHE (s : State) : Outcome := .next (ldRegReg .ixh .e s.fetch2)

/-- `LD IXH,IXH` (DD 64), R446. -/
def execLdIXHIXH (s : State) : Outcome := .next (ldRegReg .ixh .ixh s.fetch2)

/-- `LD IXH,IXL` (DD 65), R446. -/
def execLdIXHIXL (s : State) : Outcome := .next (ldRegReg .ixh .ixl s.fetch2)

/-- `LD H,(IX+d)` (DD 66), R444. -/
def execLdHAtIXd (s : State) : Outcome := .next (ldRegIdx .h .ix s.fetch2)

/-- `LD IXH,A` (DD 67), R446. -/
def execLdIXHA (s : State) : Outcome := .next (ldRegReg .ixh .a s.fetch2)

/-- `LD IXL,B` (DD 68), R446. -/
def execLdIXLB (s : State) : Outcome := .next (ldRegReg .ixl .b s.fetch2)

/-- `LD IXL,C` (DD 69), R446. -/
def execLdIXLC (s : State) : Outcome := .next (ldRegReg .ixl .c s.fetch2)

/-- `LD IXL,D` (DD 6A), R446. -/
def execLdIXLD (s : State) : Outcome := .next (ldRegReg .ixl .d s.fetch2)

/-- `LD IXL,E` (DD 6B), R446. -/
def execLdIXLE (s : State) : Outcome := .next (ldRegReg .ixl .e s.fetch2)

/-- `LD IXL,IXH` (DD 6C), R446. -/
def execLdIXLIXH (s : State) : Outcome := .next (ldRegReg .ixl .ixh s.fetch2)

/-- `LD IXL,IXL` (DD 6D), R446. -/
def execLdIXLIXL (s : State) : Outcome := .next (ldRegReg .ixl .ixl s.fetch2)

/-- `LD L,(IX+d)` (DD 6E), R444. -/
def execLdLAtIXd (s : State) : Outcome := .next (ldRegIdx .l .ix s.fetch2)

/-- `LD IXL,A` (DD 6F), R446. -/
def execLdIXLA (s : State) : Outcome := .next (ldRegReg .ixl .a s.fetch2)

/-- `LD (IX+d),B` (DD 70), R445. -/
def execLdAtIXdB (s : State) : Outcome := .next (stIdxReg .b .ix s.fetch2)

/-- `LD (IX+d),C` (DD 71), R445. -/
def execLdAtIXdC (s : State) : Outcome := .next (stIdxReg .c .ix s.fetch2)

/-- `LD (IX+d),D` (DD 72), R445. -/
def execLdAtIXdD (s : State) : Outcome := .next (stIdxReg .d .ix s.fetch2)

/-- `LD (IX+d),E` (DD 73), R445. -/
def execLdAtIXdE (s : State) : Outcome := .next (stIdxReg .e .ix s.fetch2)

/-- `LD (IX+d),H` (DD 74), R445. -/
def execLdAtIXdH (s : State) : Outcome := .next (stIdxReg .h .ix s.fetch2)

/-- `LD (IX+d),L` (DD 75), R445. -/
def execLdAtIXdL (s : State) : Outcome := .next (stIdxReg .l .ix s.fetch2)

/-- `LD (IX+d),A` (DD 77), R445. -/
def execLdAtIXdA (s : State) : Outcome := .next (stIdxReg .a .ix s.fetch2)

/-- `LD A,IXH` (DD 7C), R446. -/
def execLdAIXH (s : State) : Outcome := .next (ldRegReg .a .ixh s.fetch2)

/-- `LD A,IXL` (DD 7D), R446. -/
def execLdAIXL (s : State) : Outcome := .next (ldRegReg .a .ixl s.fetch2)

/-- `LD A,(IX+d)` (DD 7E), R444. -/
def execLdAAtIXd (s : State) : Outcome := .next (ldRegIdx .a .ix s.fetch2)

/-- `ADD A,IXH` (DD 84), R447. -/
def execAddAIXH (s : State) : Outcome := .next (aluReg .add .ixh s.fetch2)

/-- `ADD A,IXL` (DD 85), R447. -/
def execAddAIXL (s : State) : Outcome := .next (aluReg .add .ixl s.fetch2)

/-- `ADD A,(IX+d)` (DD 86), R448. -/
def execAddAAtIXd (s : State) : Outcome := .next (aluIdx .add .ix s.fetch2)

/-- `ADC A,IXH` (DD 8C), R447. -/
def execAdcAIXH (s : State) : Outcome := .next (aluReg .adc .ixh s.fetch2)

/-- `ADC A,IXL` (DD 8D), R447. -/
def execAdcAIXL (s : State) : Outcome := .next (aluReg .adc .ixl s.fetch2)

/-- `ADC A,(IX+d)` (DD 8E), R448. -/
def execAdcAAtIXd (s : State) : Outcome := .next (aluIdx .adc .ix s.fetch2)

/-- `SUB IXH` (DD 94), R447. -/
def execSubIXH (s : State) : Outcome := .next (aluReg .sub .ixh s.fetch2)

/-- `SUB IXL` (DD 95), R447. -/
def execSubIXL (s : State) : Outcome := .next (aluReg .sub .ixl s.fetch2)

/-- `SUB (IX+d)` (DD 96), R448. -/
def execSubAtIXd (s : State) : Outcome := .next (aluIdx .sub .ix s.fetch2)

/-- `SBC A,IXH` (DD 9C), R447. -/
def execSbcAIXH (s : State) : Outcome := .next (aluReg .sbc .ixh s.fetch2)

/-- `SBC A,IXL` (DD 9D), R447. -/
def execSbcAIXL (s : State) : Outcome := .next (aluReg .sbc .ixl s.fetch2)

/-- `SBC A,(IX+d)` (DD 9E), R448. -/
def execSbcAAtIXd (s : State) : Outcome := .next (aluIdx .sbc .ix s.fetch2)

/-- `AND IXH` (DD A4), R447. -/
def execAndIXH (s : State) : Outcome := .next (aluReg .and .ixh s.fetch2)

/-- `AND IXL` (DD A5), R447. -/
def execAndIXL (s : State) : Outcome := .next (aluReg .and .ixl s.fetch2)

/-- `AND (IX+d)` (DD A6), R448. -/
def execAndAtIXd (s : State) : Outcome := .next (aluIdx .and .ix s.fetch2)

/-- `XOR IXH` (DD AC), R447. -/
def execXorIXH (s : State) : Outcome := .next (aluReg .xor .ixh s.fetch2)

/-- `XOR IXL` (DD AD), R447. -/
def execXorIXL (s : State) : Outcome := .next (aluReg .xor .ixl s.fetch2)

/-- `XOR (IX+d)` (DD AE), R448. -/
def execXorAtIXd (s : State) : Outcome := .next (aluIdx .xor .ix s.fetch2)

/-- `OR IXH` (DD B4), R447. -/
def execOrIXH (s : State) : Outcome := .next (aluReg .or .ixh s.fetch2)

/-- `OR IXL` (DD B5), R447. -/
def execOrIXL (s : State) : Outcome := .next (aluReg .or .ixl s.fetch2)

/-- `OR (IX+d)` (DD B6), R448. -/
def execOrAtIXd (s : State) : Outcome := .next (aluIdx .or .ix s.fetch2)

/-- `CP IXH` (DD BC), R447. -/
def execCpIXH (s : State) : Outcome := .next (aluReg .cp .ixh s.fetch2)

/-- `CP IXL` (DD BD), R447. -/
def execCpIXL (s : State) : Outcome := .next (aluReg .cp .ixl s.fetch2)

/-- `CP (IX+d)` (DD BE), R448. -/
def execCpAtIXd (s : State) : Outcome := .next (aluIdx .cp .ix s.fetch2)

/-- `POP IX` (DD E1), R449. -/
def execPopIX (s : State) : Outcome := .next (popPair .ix s.fetch2)

/-- `EX (SP),IX` (DD E3), R451. -/
def execExAtSPIX (s : State) : Outcome := .next (exSpPair .ix s.fetch2)

/-- `PUSH IX` (DD E5), R450. -/
def execPushIX (s : State) : Outcome := .next (pushPair .ix s.fetch2)

/-- `JP (IX)` (DD E9), R452. -/
def execJpAtIX (s : State) : Outcome := .next (jpPair .ix s.fetch2)

/-- `LD SP,IX` (DD F9), R453. -/
def execLdSPIX (s : State) : Outcome := .next (ldSpPair .ix s.fetch2)

/-- `ADD IY,BC` (FD 09), R432. -/
def execAddIYBC (s : State) : Outcome := .next (addPair .iy .bc s.fetch2)

/-- `ADD IY,DE` (FD 19), R432. -/
def execAddIYDE (s : State) : Outcome := .next (addPair .iy .de s.fetch2)

/-- `LD IY,nn` (FD 21), R433. -/
def execLdIYImm16 (s : State) : Outcome := .next (ldPairImm .iy s.fetch2)

/-- `LD (nn),IY` (FD 22), R434. -/
def execLdAtAbsIY (s : State) : Outcome := .next (stPairAbs .iy s.fetch2)

/-- `INC IY` (FD 23), R436. -/
def execIncIY (s : State) : Outcome := .next (incPair .iy s.fetch2)

/-- `INC IYH` (FD 24), R438. -/
def execIncIYH (s : State) : Outcome := .next (incReg .iyh s.fetch2)

/-- `DEC IYH` (FD 25), R439. -/
def execDecIYH (s : State) : Outcome := .next (decReg .iyh s.fetch2)

/-- `LD IYH,n` (FD 26), R440. -/
def execLdIYHImm (s : State) : Outcome := .next (ldRegImm .iyh s.fetch2)

/-- `ADD IY,IY` (FD 29), R432. -/
def execAddIYIY (s : State) : Outcome := .next (addPair .iy .iy s.fetch2)

/-- `LD IY,(nn)` (FD 2A), R435. -/
def execLdIYAtAbs (s : State) : Outcome := .next (ldPairAbs .iy s.fetch2)

/-- `DEC IY` (FD 2B), R437. -/
def execDecIY (s : State) : Outcome := .next (decPair .iy s.fetch2)

/-- `INC IYL` (FD 2C), R438. -/
def execIncIYL (s : State) : Outcome := .next (incReg .iyl s.fetch2)

/-- `DEC IYL` (FD 2D), R439. -/
def execDecIYL (s : State) : Outcome := .next (decReg .iyl s.fetch2)

/-- `LD IYL,n` (FD 2E), R440. -/
def execLdIYLImm (s : State) : Outcome := .next (ldRegImm .iyl s.fetch2)

/-- `INC (IY+d)` (FD 34), R441. -/
def execIncAtIYd (s : State) : Outcome := .next (incIdx .iy s.fetch2)

/-- `DEC (IY+d)` (FD 35), R442. -/
def execDecAtIYd (s : State) : Outcome := .next (decIdx .iy s.fetch2)

/-- `LD (IY+d),n` (FD 36), R443. -/
def execLdAtIYdImm (s : State) : Outcome := .next (stIdxImm .iy s.fetch2)

/-- `ADD IY,SP` (FD 39), R432. -/
def execAddIYSP (s : State) : Outcome := .next (addPair .iy .sp s.fetch2)

/-- `LD B,IYH` (FD 44), R446. -/
def execLdBIYH (s : State) : Outcome := .next (ldRegReg .b .iyh s.fetch2)

/-- `LD B,IYL` (FD 45), R446. -/
def execLdBIYL (s : State) : Outcome := .next (ldRegReg .b .iyl s.fetch2)

/-- `LD B,(IY+d)` (FD 46), R444. -/
def execLdBAtIYd (s : State) : Outcome := .next (ldRegIdx .b .iy s.fetch2)

/-- `LD C,IYH` (FD 4C), R446. -/
def execLdCIYH (s : State) : Outcome := .next (ldRegReg .c .iyh s.fetch2)

/-- `LD C,IYL` (FD 4D), R446. -/
def execLdCIYL (s : State) : Outcome := .next (ldRegReg .c .iyl s.fetch2)

/-- `LD C,(IY+d)` (FD 4E), R444. -/
def execLdCAtIYd (s : State) : Outcome := .next (ldRegIdx .c .iy s.fetch2)

/-- `LD D,IYH` (FD 54), R446. -/
def execLdDIYH (s : State) : Outcome := .next (ldRegReg .d .iyh s.fetch2)

/-- `LD D,IYL` (FD 55), R446. -/
def execLdDIYL (s : State) : Outcome := .next (ldRegReg .d .iyl s.fetch2)

/-- `LD D,(IY+d)` (FD 56), R444. -/
def execLdDAtIYd (s : State) : Outcome := .next (ldRegIdx .d .iy s.fetch2)

/-- `LD E,IYH` (FD 5C), R446. -/
def execLdEIYH (s : State) : Outcome := .next (ldRegReg .e .iyh s.fetch2)

/-- `LD E,IYL` (FD 5D), R446. -/
def execLdEIYL (s : State) : Outcome := .next (ldRegReg .e .iyl s.fetch2)

/-- `LD E,(IY+d)` (FD 5E), R444. -/
def execLdEAtIYd (s : State) : Outcome := .next (ldRegIdx .e .iy s.fetch2)

/-- `LD IYH,B` (FD 60), R446. -/
def execLdIYHB (s : State) : Outcome := .next (ldRegReg .iyh .b s.fetch2)

/-- `LD IYH,C` (FD 61), R446. -/
def execLdIYHC (s : State) : Outcome := .next (ldRegReg .iyh .c s.fetch2)

/-- `LD IYH,D` (FD 62), R446. -/
def execLdIYHD (s : State) : Outcome := .next (ldRegReg .iyh .d s.fetch2)

/-- `LD IYH,E` (FD 63), R446. -/
def execLdIYHE (s : State) : Outcome := .next (ldRegReg .iyh .e s.fetch2)

/-- `LD IYH,IYH` (FD 64), R446. -/
def execLdIYHIYH (s : State) : Outcome := .next (ldRegReg .iyh .iyh s.fetch2)

/-- `LD IYH,IYL` (FD 65), R446. -/
def execLdIYHIYL (s : State) : Outcome := .next (ldRegReg .iyh .iyl s.fetch2)

/-- `LD H,(IY+d)` (FD 66), R444. -/
def execLdHAtIYd (s : State) : Outcome := .next (ldRegIdx .h .iy s.fetch2)

/-- `LD IYH,A` (FD 67), R446. -/
def execLdIYHA (s : State) : Outcome := .next (ldRegReg .iyh .a s.fetch2)

/-- `LD IYL,B` (FD 68), R446. -/
def execLdIYLB (s : State) : Outcome := .next (ldRegReg .iyl .b s.fetch2)

/-- `LD IYL,C` (FD 69), R446. -/
def execLdIYLC (s : State) : Outcome := .next (ldRegReg .iyl .c s.fetch2)

/-- `LD IYL,D` (FD 6A), R446. -/
def execLdIYLD (s : State) : Outcome := .next (ldRegReg .iyl .d s.fetch2)

/-- `LD IYL,E` (FD 6B), R446. -/
def execLdIYLE (s : State) : Outcome := .next (ldRegReg .iyl .e s.fetch2)

/-- `LD IYL,IYH` (FD 6C), R446. -/
def execLdIYLIYH (s : State) : Outcome := .next (ldRegReg .iyl .iyh s.fetch2)

/-- `LD IYL,IYL` (FD 6D), R446. -/
def execLdIYLIYL (s : State) : Outcome := .next (ldRegReg .iyl .iyl s.fetch2)

/-- `LD L,(IY+d)` (FD 6E), R444. -/
def execLdLAtIYd (s : State) : Outcome := .next (ldRegIdx .l .iy s.fetch2)

/-- `LD IYL,A` (FD 6F), R446. -/
def execLdIYLA (s : State) : Outcome := .next (ldRegReg .iyl .a s.fetch2)

/-- `LD (IY+d),B` (FD 70), R445. -/
def execLdAtIYdB (s : State) : Outcome := .next (stIdxReg .b .iy s.fetch2)

/-- `LD (IY+d),C` (FD 71), R445. -/
def execLdAtIYdC (s : State) : Outcome := .next (stIdxReg .c .iy s.fetch2)

/-- `LD (IY+d),D` (FD 72), R445. -/
def execLdAtIYdD (s : State) : Outcome := .next (stIdxReg .d .iy s.fetch2)

/-- `LD (IY+d),E` (FD 73), R445. -/
def execLdAtIYdE (s : State) : Outcome := .next (stIdxReg .e .iy s.fetch2)

/-- `LD (IY+d),H` (FD 74), R445. -/
def execLdAtIYdH (s : State) : Outcome := .next (stIdxReg .h .iy s.fetch2)

/-- `LD (IY+d),L` (FD 75), R445. -/
def execLdAtIYdL (s : State) : Outcome := .next (stIdxReg .l .iy s.fetch2)

/-- `LD (IY+d),A` (FD 77), R445. -/
def execLdAtIYdA (s : State) : Outcome := .next (stIdxReg .a .iy s.fetch2)

/-- `LD A,IYH` (FD 7C), R446. -/
def execLdAIYH (s : State) : Outcome := .next (ldRegReg .a .iyh s.fetch2)

/-- `LD A,IYL` (FD 7D), R446. -/
def execLdAIYL (s : State) : Outcome := .next (ldRegReg .a .iyl s.fetch2)

/-- `LD A,(IY+d)` (FD 7E), R444. -/
def execLdAAtIYd (s : State) : Outcome := .next (ldRegIdx .a .iy s.fetch2)

/-- `ADD A,IYH` (FD 84), R447. -/
def execAddAIYH (s : State) : Outcome := .next (aluReg .add .iyh s.fetch2)

/-- `ADD A,IYL` (FD 85), R447. -/
def execAddAIYL (s : State) : Outcome := .next (aluReg .add .iyl s.fetch2)

/-- `ADD A,(IY+d)` (FD 86), R448. -/
def execAddAAtIYd (s : State) : Outcome := .next (aluIdx .add .iy s.fetch2)

/-- `ADC A,IYH` (FD 8C), R447. -/
def execAdcAIYH (s : State) : Outcome := .next (aluReg .adc .iyh s.fetch2)

/-- `ADC A,IYL` (FD 8D), R447. -/
def execAdcAIYL (s : State) : Outcome := .next (aluReg .adc .iyl s.fetch2)

/-- `ADC A,(IY+d)` (FD 8E), R448. -/
def execAdcAAtIYd (s : State) : Outcome := .next (aluIdx .adc .iy s.fetch2)

/-- `SUB IYH` (FD 94), R447. -/
def execSubIYH (s : State) : Outcome := .next (aluReg .sub .iyh s.fetch2)

/-- `SUB IYL` (FD 95), R447. -/
def execSubIYL (s : State) : Outcome := .next (aluReg .sub .iyl s.fetch2)

/-- `SUB (IY+d)` (FD 96), R448. -/
def execSubAtIYd (s : State) : Outcome := .next (aluIdx .sub .iy s.fetch2)

/-- `SBC A,IYH` (FD 9C), R447. -/
def execSbcAIYH (s : State) : Outcome := .next (aluReg .sbc .iyh s.fetch2)

/-- `SBC A,IYL` (FD 9D), R447. -/
def execSbcAIYL (s : State) : Outcome := .next (aluReg .sbc .iyl s.fetch2)

/-- `SBC A,(IY+d)` (FD 9E), R448. -/
def execSbcAAtIYd (s : State) : Outcome := .next (aluIdx .sbc .iy s.fetch2)

/-- `AND IYH` (FD A4), R447. -/
def execAndIYH (s : State) : Outcome := .next (aluReg .and .iyh s.fetch2)

/-- `AND IYL` (FD A5), R447. -/
def execAndIYL (s : State) : Outcome := .next (aluReg .and .iyl s.fetch2)

/-- `AND (IY+d)` (FD A6), R448. -/
def execAndAtIYd (s : State) : Outcome := .next (aluIdx .and .iy s.fetch2)

/-- `XOR IYH` (FD AC), R447. -/
def execXorIYH (s : State) : Outcome := .next (aluReg .xor .iyh s.fetch2)

/-- `XOR IYL` (FD AD), R447. -/
def execXorIYL (s : State) : Outcome := .next (aluReg .xor .iyl s.fetch2)

/-- `XOR (IY+d)` (FD AE), R448. -/
def execXorAtIYd (s : State) : Outcome := .next (aluIdx .xor .iy s.fetch2)

/-- `OR IYH` (FD B4), R447. -/
def execOrIYH (s : State) : Outcome := .next (aluReg .or .iyh s.fetch2)

/-- `OR IYL` (FD B5), R447. -/
def execOrIYL (s : State) : Outcome := .next (aluReg .or .iyl s.fetch2)

/-- `OR (IY+d)` (FD B6), R448. -/
def execOrAtIYd (s : State) : Outcome := .next (aluIdx .or .iy s.fetch2)

/-- `CP IYH` (FD BC), R447. -/
def execCpIYH (s : State) : Outcome := .next (aluReg .cp .iyh s.fetch2)

/-- `CP IYL` (FD BD), R447. -/
def execCpIYL (s : State) : Outcome := .next (aluReg .cp .iyl s.fetch2)

/-- `CP (IY+d)` (FD BE), R448. -/
def execCpAtIYd (s : State) : Outcome := .next (aluIdx .cp .iy s.fetch2)

/-- `POP IY` (FD E1), R449. -/
def execPopIY (s : State) : Outcome := .next (popPair .iy s.fetch2)

/-- `EX (SP),IY` (FD E3), R451. -/
def execExAtSPIY (s : State) : Outcome := .next (exSpPair .iy s.fetch2)

/-- `PUSH IY` (FD E5), R450. -/
def execPushIY (s : State) : Outcome := .next (pushPair .iy s.fetch2)

/-- `JP (IY)` (FD E9), R452. -/
def execJpAtIY (s : State) : Outcome := .next (jpPair .iy s.fetch2)

/-- `LD SP,IY` (FD F9), R453. -/
def execLdSPIY (s : State) : Outcome := .next (ldSpPair .iy s.fetch2)

end Sys2Proof.Machine
end

