-- ==== Sys2Proof/Machine/IndexBitOps.lean ====
section
/-! DEFINITION. The DDCB and FDCB tables: bit operations on `(ii+d)`, with the copy to a register where
`z` is not 6 (48_ddcb.md R490 to R497). -/

namespace Sys2Proof.Machine

/-! ## Shared operations -/

/-- `MemWrite(a, 1, res)` after the operand fetch, then `F` (R490). -/
def writeIdx (ii : Idx) (o : AluOut) (s : State) : State :=
  ((s.indexedCbOperand ii).memWrite (s.indexed ii) o.res).setF o.flags

/-- `rot[y]` of the byte at `ii + d`. -/
def rotIdxOut (op : RotOp) (ii : Idx) (s : State) : AluOut :=
  rotate op (s.peek (s.indexed ii)) s.regs.f

/-- `rot[y] (ii+d)` (R491). -/
def rotIdx (rot : RotOp) (ii : Idx) (s : State) : State :=
  writeIdx ii (rotIdxOut rot ii s) s

/-- `LD r,rot[y] (ii+d)`: both effects, the memory write first (R492). -/
def rotIdxReg (rot : RotOp) (x : Reg8) (ii : Idx) (s : State) : State :=
  (rotIdx rot ii s).setReg8 x (rotIdxOut rot ii s).res

/-- `BIT b,(ii+d)` for every `z`: bits 5 and 3 from the high byte of the address (R493). -/
def bitIdx (b : Nat) (ii : Idx) (s : State) : State :=
  (s.indexedCbOperand ii).setF
    (bitFlags b (s.peek (s.indexed ii)) (hiByte (s.indexed ii)) s.regs.f)

/-- `RES b,(ii+d)` (R494). -/
def resIdx (b : Nat) (ii : Idx) (s : State) : State :=
  writeIdx ii ⟨resBit b (s.peek (s.indexed ii)), s.regs.f⟩ s

/-- `LD r,RES b,(ii+d)` (R495). -/
def resIdxReg (b : Nat) (x : Reg8) (ii : Idx) (s : State) : State :=
  (resIdx b ii s).setReg8 x (resBit b (s.peek (s.indexed ii)))

/-- `SET b,(ii+d)` (R496). -/
def setIdx (b : Nat) (ii : Idx) (s : State) : State :=
  writeIdx ii ⟨setBit b (s.peek (s.indexed ii)), s.regs.f⟩ s

/-- `LD r,SET b,(ii+d)` (R497). -/
def setIdxReg (b : Nat) (x : Reg8) (ii : Idx) (s : State) : State :=
  (setIdx b ii s).setReg8 x (setBit b (s.peek (s.indexed ii)))

/-! ## The instructions -/

/-- `BIT 0,(IX+d)` (DD CB d 40..47), R493. -/
def execBit0AtIXd (s : State) : Outcome := .next (bitIdx 0 .ix s.fetch2)

/-- `BIT 1,(IX+d)` (DD CB d 48..4F), R493. -/
def execBit1AtIXd (s : State) : Outcome := .next (bitIdx 1 .ix s.fetch2)

/-- `BIT 2,(IX+d)` (DD CB d 50..57), R493. -/
def execBit2AtIXd (s : State) : Outcome := .next (bitIdx 2 .ix s.fetch2)

/-- `BIT 3,(IX+d)` (DD CB d 58..5F), R493. -/
def execBit3AtIXd (s : State) : Outcome := .next (bitIdx 3 .ix s.fetch2)

/-- `BIT 4,(IX+d)` (DD CB d 60..67), R493. -/
def execBit4AtIXd (s : State) : Outcome := .next (bitIdx 4 .ix s.fetch2)

/-- `BIT 5,(IX+d)` (DD CB d 68..6F), R493. -/
def execBit5AtIXd (s : State) : Outcome := .next (bitIdx 5 .ix s.fetch2)

/-- `BIT 6,(IX+d)` (DD CB d 70..77), R493. -/
def execBit6AtIXd (s : State) : Outcome := .next (bitIdx 6 .ix s.fetch2)

/-- `BIT 7,(IX+d)` (DD CB d 78..7F), R493. -/
def execBit7AtIXd (s : State) : Outcome := .next (bitIdx 7 .ix s.fetch2)

/-- `BIT 0,(IY+d)` (FD CB d 40..47), R493. -/
def execBit0AtIYd (s : State) : Outcome := .next (bitIdx 0 .iy s.fetch2)

/-- `BIT 1,(IY+d)` (FD CB d 48..4F), R493. -/
def execBit1AtIYd (s : State) : Outcome := .next (bitIdx 1 .iy s.fetch2)

/-- `BIT 2,(IY+d)` (FD CB d 50..57), R493. -/
def execBit2AtIYd (s : State) : Outcome := .next (bitIdx 2 .iy s.fetch2)

/-- `BIT 3,(IY+d)` (FD CB d 58..5F), R493. -/
def execBit3AtIYd (s : State) : Outcome := .next (bitIdx 3 .iy s.fetch2)

/-- `BIT 4,(IY+d)` (FD CB d 60..67), R493. -/
def execBit4AtIYd (s : State) : Outcome := .next (bitIdx 4 .iy s.fetch2)

/-- `BIT 5,(IY+d)` (FD CB d 68..6F), R493. -/
def execBit5AtIYd (s : State) : Outcome := .next (bitIdx 5 .iy s.fetch2)

/-- `BIT 6,(IY+d)` (FD CB d 70..77), R493. -/
def execBit6AtIYd (s : State) : Outcome := .next (bitIdx 6 .iy s.fetch2)

/-- `BIT 7,(IY+d)` (FD CB d 78..7F), R493. -/
def execBit7AtIYd (s : State) : Outcome := .next (bitIdx 7 .iy s.fetch2)

/-- `LD B,RLC (IX+d)` (DD CB d 00), R492. -/
def execLdBRlcAtIXd (s : State) : Outcome := .next (rotIdxReg .rlc .b .ix s.fetch2)

/-- `LD C,RLC (IX+d)` (DD CB d 01), R492. -/
def execLdCRlcAtIXd (s : State) : Outcome := .next (rotIdxReg .rlc .c .ix s.fetch2)

/-- `LD D,RLC (IX+d)` (DD CB d 02), R492. -/
def execLdDRlcAtIXd (s : State) : Outcome := .next (rotIdxReg .rlc .d .ix s.fetch2)

/-- `LD E,RLC (IX+d)` (DD CB d 03), R492. -/
def execLdERlcAtIXd (s : State) : Outcome := .next (rotIdxReg .rlc .e .ix s.fetch2)

/-- `LD H,RLC (IX+d)` (DD CB d 04), R492. -/
def execLdHRlcAtIXd (s : State) : Outcome := .next (rotIdxReg .rlc .h .ix s.fetch2)

/-- `LD L,RLC (IX+d)` (DD CB d 05), R492. -/
def execLdLRlcAtIXd (s : State) : Outcome := .next (rotIdxReg .rlc .l .ix s.fetch2)

/-- `RLC (IX+d)` (DD CB d 06), R491. -/
def execRlcAtIXd (s : State) : Outcome := .next (rotIdx .rlc .ix s.fetch2)

/-- `LD A,RLC (IX+d)` (DD CB d 07), R492. -/
def execLdARlcAtIXd (s : State) : Outcome := .next (rotIdxReg .rlc .a .ix s.fetch2)

/-- `LD B,RRC (IX+d)` (DD CB d 08), R492. -/
def execLdBRrcAtIXd (s : State) : Outcome := .next (rotIdxReg .rrc .b .ix s.fetch2)

/-- `LD C,RRC (IX+d)` (DD CB d 09), R492. -/
def execLdCRrcAtIXd (s : State) : Outcome := .next (rotIdxReg .rrc .c .ix s.fetch2)

/-- `LD D,RRC (IX+d)` (DD CB d 0A), R492. -/
def execLdDRrcAtIXd (s : State) : Outcome := .next (rotIdxReg .rrc .d .ix s.fetch2)

/-- `LD E,RRC (IX+d)` (DD CB d 0B), R492. -/
def execLdERrcAtIXd (s : State) : Outcome := .next (rotIdxReg .rrc .e .ix s.fetch2)

/-- `LD H,RRC (IX+d)` (DD CB d 0C), R492. -/
def execLdHRrcAtIXd (s : State) : Outcome := .next (rotIdxReg .rrc .h .ix s.fetch2)

/-- `LD L,RRC (IX+d)` (DD CB d 0D), R492. -/
def execLdLRrcAtIXd (s : State) : Outcome := .next (rotIdxReg .rrc .l .ix s.fetch2)

/-- `RRC (IX+d)` (DD CB d 0E), R491. -/
def execRrcAtIXd (s : State) : Outcome := .next (rotIdx .rrc .ix s.fetch2)

/-- `LD A,RRC (IX+d)` (DD CB d 0F), R492. -/
def execLdARrcAtIXd (s : State) : Outcome := .next (rotIdxReg .rrc .a .ix s.fetch2)

/-- `LD B,RL (IX+d)` (DD CB d 10), R492. -/
def execLdBRlAtIXd (s : State) : Outcome := .next (rotIdxReg .rl .b .ix s.fetch2)

/-- `LD C,RL (IX+d)` (DD CB d 11), R492. -/
def execLdCRlAtIXd (s : State) : Outcome := .next (rotIdxReg .rl .c .ix s.fetch2)

/-- `LD D,RL (IX+d)` (DD CB d 12), R492. -/
def execLdDRlAtIXd (s : State) : Outcome := .next (rotIdxReg .rl .d .ix s.fetch2)

/-- `LD E,RL (IX+d)` (DD CB d 13), R492. -/
def execLdERlAtIXd (s : State) : Outcome := .next (rotIdxReg .rl .e .ix s.fetch2)

/-- `LD H,RL (IX+d)` (DD CB d 14), R492. -/
def execLdHRlAtIXd (s : State) : Outcome := .next (rotIdxReg .rl .h .ix s.fetch2)

/-- `LD L,RL (IX+d)` (DD CB d 15), R492. -/
def execLdLRlAtIXd (s : State) : Outcome := .next (rotIdxReg .rl .l .ix s.fetch2)

/-- `RL (IX+d)` (DD CB d 16), R491. -/
def execRlAtIXd (s : State) : Outcome := .next (rotIdx .rl .ix s.fetch2)

/-- `LD A,RL (IX+d)` (DD CB d 17), R492. -/
def execLdARlAtIXd (s : State) : Outcome := .next (rotIdxReg .rl .a .ix s.fetch2)

/-- `LD B,RR (IX+d)` (DD CB d 18), R492. -/
def execLdBRrAtIXd (s : State) : Outcome := .next (rotIdxReg .rr .b .ix s.fetch2)

/-- `LD C,RR (IX+d)` (DD CB d 19), R492. -/
def execLdCRrAtIXd (s : State) : Outcome := .next (rotIdxReg .rr .c .ix s.fetch2)

/-- `LD D,RR (IX+d)` (DD CB d 1A), R492. -/
def execLdDRrAtIXd (s : State) : Outcome := .next (rotIdxReg .rr .d .ix s.fetch2)

/-- `LD E,RR (IX+d)` (DD CB d 1B), R492. -/
def execLdERrAtIXd (s : State) : Outcome := .next (rotIdxReg .rr .e .ix s.fetch2)

/-- `LD H,RR (IX+d)` (DD CB d 1C), R492. -/
def execLdHRrAtIXd (s : State) : Outcome := .next (rotIdxReg .rr .h .ix s.fetch2)

/-- `LD L,RR (IX+d)` (DD CB d 1D), R492. -/
def execLdLRrAtIXd (s : State) : Outcome := .next (rotIdxReg .rr .l .ix s.fetch2)

/-- `RR (IX+d)` (DD CB d 1E), R491. -/
def execRrAtIXd (s : State) : Outcome := .next (rotIdx .rr .ix s.fetch2)

/-- `LD A,RR (IX+d)` (DD CB d 1F), R492. -/
def execLdARrAtIXd (s : State) : Outcome := .next (rotIdxReg .rr .a .ix s.fetch2)

/-- `LD B,SLA (IX+d)` (DD CB d 20), R492. -/
def execLdBSlaAtIXd (s : State) : Outcome := .next (rotIdxReg .sla .b .ix s.fetch2)

/-- `LD C,SLA (IX+d)` (DD CB d 21), R492. -/
def execLdCSlaAtIXd (s : State) : Outcome := .next (rotIdxReg .sla .c .ix s.fetch2)

/-- `LD D,SLA (IX+d)` (DD CB d 22), R492. -/
def execLdDSlaAtIXd (s : State) : Outcome := .next (rotIdxReg .sla .d .ix s.fetch2)

/-- `LD E,SLA (IX+d)` (DD CB d 23), R492. -/
def execLdESlaAtIXd (s : State) : Outcome := .next (rotIdxReg .sla .e .ix s.fetch2)

/-- `LD H,SLA (IX+d)` (DD CB d 24), R492. -/
def execLdHSlaAtIXd (s : State) : Outcome := .next (rotIdxReg .sla .h .ix s.fetch2)

/-- `LD L,SLA (IX+d)` (DD CB d 25), R492. -/
def execLdLSlaAtIXd (s : State) : Outcome := .next (rotIdxReg .sla .l .ix s.fetch2)

/-- `SLA (IX+d)` (DD CB d 26), R491. -/
def execSlaAtIXd (s : State) : Outcome := .next (rotIdx .sla .ix s.fetch2)

/-- `LD A,SLA (IX+d)` (DD CB d 27), R492. -/
def execLdASlaAtIXd (s : State) : Outcome := .next (rotIdxReg .sla .a .ix s.fetch2)

/-- `LD B,SRA (IX+d)` (DD CB d 28), R492. -/
def execLdBSraAtIXd (s : State) : Outcome := .next (rotIdxReg .sra .b .ix s.fetch2)

/-- `LD C,SRA (IX+d)` (DD CB d 29), R492. -/
def execLdCSraAtIXd (s : State) : Outcome := .next (rotIdxReg .sra .c .ix s.fetch2)

/-- `LD D,SRA (IX+d)` (DD CB d 2A), R492. -/
def execLdDSraAtIXd (s : State) : Outcome := .next (rotIdxReg .sra .d .ix s.fetch2)

/-- `LD E,SRA (IX+d)` (DD CB d 2B), R492. -/
def execLdESraAtIXd (s : State) : Outcome := .next (rotIdxReg .sra .e .ix s.fetch2)

/-- `LD H,SRA (IX+d)` (DD CB d 2C), R492. -/
def execLdHSraAtIXd (s : State) : Outcome := .next (rotIdxReg .sra .h .ix s.fetch2)

/-- `LD L,SRA (IX+d)` (DD CB d 2D), R492. -/
def execLdLSraAtIXd (s : State) : Outcome := .next (rotIdxReg .sra .l .ix s.fetch2)

/-- `SRA (IX+d)` (DD CB d 2E), R491. -/
def execSraAtIXd (s : State) : Outcome := .next (rotIdx .sra .ix s.fetch2)

/-- `LD A,SRA (IX+d)` (DD CB d 2F), R492. -/
def execLdASraAtIXd (s : State) : Outcome := .next (rotIdxReg .sra .a .ix s.fetch2)

/-- `LD B,SLL (IX+d)` (DD CB d 30), R492. -/
def execLdBSllAtIXd (s : State) : Outcome := .next (rotIdxReg .sll .b .ix s.fetch2)

/-- `LD C,SLL (IX+d)` (DD CB d 31), R492. -/
def execLdCSllAtIXd (s : State) : Outcome := .next (rotIdxReg .sll .c .ix s.fetch2)

/-- `LD D,SLL (IX+d)` (DD CB d 32), R492. -/
def execLdDSllAtIXd (s : State) : Outcome := .next (rotIdxReg .sll .d .ix s.fetch2)

/-- `LD E,SLL (IX+d)` (DD CB d 33), R492. -/
def execLdESllAtIXd (s : State) : Outcome := .next (rotIdxReg .sll .e .ix s.fetch2)

/-- `LD H,SLL (IX+d)` (DD CB d 34), R492. -/
def execLdHSllAtIXd (s : State) : Outcome := .next (rotIdxReg .sll .h .ix s.fetch2)

/-- `LD L,SLL (IX+d)` (DD CB d 35), R492. -/
def execLdLSllAtIXd (s : State) : Outcome := .next (rotIdxReg .sll .l .ix s.fetch2)

/-- `SLL (IX+d)` (DD CB d 36), R491. -/
def execSllAtIXd (s : State) : Outcome := .next (rotIdx .sll .ix s.fetch2)

/-- `LD A,SLL (IX+d)` (DD CB d 37), R492. -/
def execLdASllAtIXd (s : State) : Outcome := .next (rotIdxReg .sll .a .ix s.fetch2)

/-- `LD B,SRL (IX+d)` (DD CB d 38), R492. -/
def execLdBSrlAtIXd (s : State) : Outcome := .next (rotIdxReg .srl .b .ix s.fetch2)

/-- `LD C,SRL (IX+d)` (DD CB d 39), R492. -/
def execLdCSrlAtIXd (s : State) : Outcome := .next (rotIdxReg .srl .c .ix s.fetch2)

/-- `LD D,SRL (IX+d)` (DD CB d 3A), R492. -/
def execLdDSrlAtIXd (s : State) : Outcome := .next (rotIdxReg .srl .d .ix s.fetch2)

/-- `LD E,SRL (IX+d)` (DD CB d 3B), R492. -/
def execLdESrlAtIXd (s : State) : Outcome := .next (rotIdxReg .srl .e .ix s.fetch2)

/-- `LD H,SRL (IX+d)` (DD CB d 3C), R492. -/
def execLdHSrlAtIXd (s : State) : Outcome := .next (rotIdxReg .srl .h .ix s.fetch2)

/-- `LD L,SRL (IX+d)` (DD CB d 3D), R492. -/
def execLdLSrlAtIXd (s : State) : Outcome := .next (rotIdxReg .srl .l .ix s.fetch2)

/-- `SRL (IX+d)` (DD CB d 3E), R491. -/
def execSrlAtIXd (s : State) : Outcome := .next (rotIdx .srl .ix s.fetch2)

/-- `LD A,SRL (IX+d)` (DD CB d 3F), R492. -/
def execLdASrlAtIXd (s : State) : Outcome := .next (rotIdxReg .srl .a .ix s.fetch2)

/-- `LD B,RES 0,(IX+d)` (DD CB d 80), R495. -/
def execLdBRes0AtIXd (s : State) : Outcome := .next (resIdxReg 0 .b .ix s.fetch2)

/-- `LD C,RES 0,(IX+d)` (DD CB d 81), R495. -/
def execLdCRes0AtIXd (s : State) : Outcome := .next (resIdxReg 0 .c .ix s.fetch2)

/-- `LD D,RES 0,(IX+d)` (DD CB d 82), R495. -/
def execLdDRes0AtIXd (s : State) : Outcome := .next (resIdxReg 0 .d .ix s.fetch2)

/-- `LD E,RES 0,(IX+d)` (DD CB d 83), R495. -/
def execLdERes0AtIXd (s : State) : Outcome := .next (resIdxReg 0 .e .ix s.fetch2)

/-- `LD H,RES 0,(IX+d)` (DD CB d 84), R495. -/
def execLdHRes0AtIXd (s : State) : Outcome := .next (resIdxReg 0 .h .ix s.fetch2)

/-- `LD L,RES 0,(IX+d)` (DD CB d 85), R495. -/
def execLdLRes0AtIXd (s : State) : Outcome := .next (resIdxReg 0 .l .ix s.fetch2)

/-- `RES 0,(IX+d)` (DD CB d 86), R494. -/
def execRes0AtIXd (s : State) : Outcome := .next (resIdx 0 .ix s.fetch2)

/-- `LD A,RES 0,(IX+d)` (DD CB d 87), R495. -/
def execLdARes0AtIXd (s : State) : Outcome := .next (resIdxReg 0 .a .ix s.fetch2)

/-- `LD B,RES 1,(IX+d)` (DD CB d 88), R495. -/
def execLdBRes1AtIXd (s : State) : Outcome := .next (resIdxReg 1 .b .ix s.fetch2)

/-- `LD C,RES 1,(IX+d)` (DD CB d 89), R495. -/
def execLdCRes1AtIXd (s : State) : Outcome := .next (resIdxReg 1 .c .ix s.fetch2)

/-- `LD D,RES 1,(IX+d)` (DD CB d 8A), R495. -/
def execLdDRes1AtIXd (s : State) : Outcome := .next (resIdxReg 1 .d .ix s.fetch2)

/-- `LD E,RES 1,(IX+d)` (DD CB d 8B), R495. -/
def execLdERes1AtIXd (s : State) : Outcome := .next (resIdxReg 1 .e .ix s.fetch2)

/-- `LD H,RES 1,(IX+d)` (DD CB d 8C), R495. -/
def execLdHRes1AtIXd (s : State) : Outcome := .next (resIdxReg 1 .h .ix s.fetch2)

/-- `LD L,RES 1,(IX+d)` (DD CB d 8D), R495. -/
def execLdLRes1AtIXd (s : State) : Outcome := .next (resIdxReg 1 .l .ix s.fetch2)

/-- `RES 1,(IX+d)` (DD CB d 8E), R494. -/
def execRes1AtIXd (s : State) : Outcome := .next (resIdx 1 .ix s.fetch2)

/-- `LD A,RES 1,(IX+d)` (DD CB d 8F), R495. -/
def execLdARes1AtIXd (s : State) : Outcome := .next (resIdxReg 1 .a .ix s.fetch2)

/-- `LD B,RES 2,(IX+d)` (DD CB d 90), R495. -/
def execLdBRes2AtIXd (s : State) : Outcome := .next (resIdxReg 2 .b .ix s.fetch2)

/-- `LD C,RES 2,(IX+d)` (DD CB d 91), R495. -/
def execLdCRes2AtIXd (s : State) : Outcome := .next (resIdxReg 2 .c .ix s.fetch2)

/-- `LD D,RES 2,(IX+d)` (DD CB d 92), R495. -/
def execLdDRes2AtIXd (s : State) : Outcome := .next (resIdxReg 2 .d .ix s.fetch2)

/-- `LD E,RES 2,(IX+d)` (DD CB d 93), R495. -/
def execLdERes2AtIXd (s : State) : Outcome := .next (resIdxReg 2 .e .ix s.fetch2)

/-- `LD H,RES 2,(IX+d)` (DD CB d 94), R495. -/
def execLdHRes2AtIXd (s : State) : Outcome := .next (resIdxReg 2 .h .ix s.fetch2)

/-- `LD L,RES 2,(IX+d)` (DD CB d 95), R495. -/
def execLdLRes2AtIXd (s : State) : Outcome := .next (resIdxReg 2 .l .ix s.fetch2)

/-- `RES 2,(IX+d)` (DD CB d 96), R494. -/
def execRes2AtIXd (s : State) : Outcome := .next (resIdx 2 .ix s.fetch2)

/-- `LD A,RES 2,(IX+d)` (DD CB d 97), R495. -/
def execLdARes2AtIXd (s : State) : Outcome := .next (resIdxReg 2 .a .ix s.fetch2)

/-- `LD B,RES 3,(IX+d)` (DD CB d 98), R495. -/
def execLdBRes3AtIXd (s : State) : Outcome := .next (resIdxReg 3 .b .ix s.fetch2)

/-- `LD C,RES 3,(IX+d)` (DD CB d 99), R495. -/
def execLdCRes3AtIXd (s : State) : Outcome := .next (resIdxReg 3 .c .ix s.fetch2)

/-- `LD D,RES 3,(IX+d)` (DD CB d 9A), R495. -/
def execLdDRes3AtIXd (s : State) : Outcome := .next (resIdxReg 3 .d .ix s.fetch2)

/-- `LD E,RES 3,(IX+d)` (DD CB d 9B), R495. -/
def execLdERes3AtIXd (s : State) : Outcome := .next (resIdxReg 3 .e .ix s.fetch2)

/-- `LD H,RES 3,(IX+d)` (DD CB d 9C), R495. -/
def execLdHRes3AtIXd (s : State) : Outcome := .next (resIdxReg 3 .h .ix s.fetch2)

/-- `LD L,RES 3,(IX+d)` (DD CB d 9D), R495. -/
def execLdLRes3AtIXd (s : State) : Outcome := .next (resIdxReg 3 .l .ix s.fetch2)

/-- `RES 3,(IX+d)` (DD CB d 9E), R494. -/
def execRes3AtIXd (s : State) : Outcome := .next (resIdx 3 .ix s.fetch2)

/-- `LD A,RES 3,(IX+d)` (DD CB d 9F), R495. -/
def execLdARes3AtIXd (s : State) : Outcome := .next (resIdxReg 3 .a .ix s.fetch2)

/-- `LD B,RES 4,(IX+d)` (DD CB d A0), R495. -/
def execLdBRes4AtIXd (s : State) : Outcome := .next (resIdxReg 4 .b .ix s.fetch2)

/-- `LD C,RES 4,(IX+d)` (DD CB d A1), R495. -/
def execLdCRes4AtIXd (s : State) : Outcome := .next (resIdxReg 4 .c .ix s.fetch2)

/-- `LD D,RES 4,(IX+d)` (DD CB d A2), R495. -/
def execLdDRes4AtIXd (s : State) : Outcome := .next (resIdxReg 4 .d .ix s.fetch2)

/-- `LD E,RES 4,(IX+d)` (DD CB d A3), R495. -/
def execLdERes4AtIXd (s : State) : Outcome := .next (resIdxReg 4 .e .ix s.fetch2)

/-- `LD H,RES 4,(IX+d)` (DD CB d A4), R495. -/
def execLdHRes4AtIXd (s : State) : Outcome := .next (resIdxReg 4 .h .ix s.fetch2)

/-- `LD L,RES 4,(IX+d)` (DD CB d A5), R495. -/
def execLdLRes4AtIXd (s : State) : Outcome := .next (resIdxReg 4 .l .ix s.fetch2)

/-- `RES 4,(IX+d)` (DD CB d A6), R494. -/
def execRes4AtIXd (s : State) : Outcome := .next (resIdx 4 .ix s.fetch2)

/-- `LD A,RES 4,(IX+d)` (DD CB d A7), R495. -/
def execLdARes4AtIXd (s : State) : Outcome := .next (resIdxReg 4 .a .ix s.fetch2)

/-- `LD B,RES 5,(IX+d)` (DD CB d A8), R495. -/
def execLdBRes5AtIXd (s : State) : Outcome := .next (resIdxReg 5 .b .ix s.fetch2)

/-- `LD C,RES 5,(IX+d)` (DD CB d A9), R495. -/
def execLdCRes5AtIXd (s : State) : Outcome := .next (resIdxReg 5 .c .ix s.fetch2)

/-- `LD D,RES 5,(IX+d)` (DD CB d AA), R495. -/
def execLdDRes5AtIXd (s : State) : Outcome := .next (resIdxReg 5 .d .ix s.fetch2)

/-- `LD E,RES 5,(IX+d)` (DD CB d AB), R495. -/
def execLdERes5AtIXd (s : State) : Outcome := .next (resIdxReg 5 .e .ix s.fetch2)

/-- `LD H,RES 5,(IX+d)` (DD CB d AC), R495. -/
def execLdHRes5AtIXd (s : State) : Outcome := .next (resIdxReg 5 .h .ix s.fetch2)

/-- `LD L,RES 5,(IX+d)` (DD CB d AD), R495. -/
def execLdLRes5AtIXd (s : State) : Outcome := .next (resIdxReg 5 .l .ix s.fetch2)

/-- `RES 5,(IX+d)` (DD CB d AE), R494. -/
def execRes5AtIXd (s : State) : Outcome := .next (resIdx 5 .ix s.fetch2)

/-- `LD A,RES 5,(IX+d)` (DD CB d AF), R495. -/
def execLdARes5AtIXd (s : State) : Outcome := .next (resIdxReg 5 .a .ix s.fetch2)

/-- `LD B,RES 6,(IX+d)` (DD CB d B0), R495. -/
def execLdBRes6AtIXd (s : State) : Outcome := .next (resIdxReg 6 .b .ix s.fetch2)

/-- `LD C,RES 6,(IX+d)` (DD CB d B1), R495. -/
def execLdCRes6AtIXd (s : State) : Outcome := .next (resIdxReg 6 .c .ix s.fetch2)

/-- `LD D,RES 6,(IX+d)` (DD CB d B2), R495. -/
def execLdDRes6AtIXd (s : State) : Outcome := .next (resIdxReg 6 .d .ix s.fetch2)

/-- `LD E,RES 6,(IX+d)` (DD CB d B3), R495. -/
def execLdERes6AtIXd (s : State) : Outcome := .next (resIdxReg 6 .e .ix s.fetch2)

/-- `LD H,RES 6,(IX+d)` (DD CB d B4), R495. -/
def execLdHRes6AtIXd (s : State) : Outcome := .next (resIdxReg 6 .h .ix s.fetch2)

/-- `LD L,RES 6,(IX+d)` (DD CB d B5), R495. -/
def execLdLRes6AtIXd (s : State) : Outcome := .next (resIdxReg 6 .l .ix s.fetch2)

/-- `RES 6,(IX+d)` (DD CB d B6), R494. -/
def execRes6AtIXd (s : State) : Outcome := .next (resIdx 6 .ix s.fetch2)

/-- `LD A,RES 6,(IX+d)` (DD CB d B7), R495. -/
def execLdARes6AtIXd (s : State) : Outcome := .next (resIdxReg 6 .a .ix s.fetch2)

/-- `LD B,RES 7,(IX+d)` (DD CB d B8), R495. -/
def execLdBRes7AtIXd (s : State) : Outcome := .next (resIdxReg 7 .b .ix s.fetch2)

/-- `LD C,RES 7,(IX+d)` (DD CB d B9), R495. -/
def execLdCRes7AtIXd (s : State) : Outcome := .next (resIdxReg 7 .c .ix s.fetch2)

/-- `LD D,RES 7,(IX+d)` (DD CB d BA), R495. -/
def execLdDRes7AtIXd (s : State) : Outcome := .next (resIdxReg 7 .d .ix s.fetch2)

/-- `LD E,RES 7,(IX+d)` (DD CB d BB), R495. -/
def execLdERes7AtIXd (s : State) : Outcome := .next (resIdxReg 7 .e .ix s.fetch2)

/-- `LD H,RES 7,(IX+d)` (DD CB d BC), R495. -/
def execLdHRes7AtIXd (s : State) : Outcome := .next (resIdxReg 7 .h .ix s.fetch2)

/-- `LD L,RES 7,(IX+d)` (DD CB d BD), R495. -/
def execLdLRes7AtIXd (s : State) : Outcome := .next (resIdxReg 7 .l .ix s.fetch2)

/-- `RES 7,(IX+d)` (DD CB d BE), R494. -/
def execRes7AtIXd (s : State) : Outcome := .next (resIdx 7 .ix s.fetch2)

/-- `LD A,RES 7,(IX+d)` (DD CB d BF), R495. -/
def execLdARes7AtIXd (s : State) : Outcome := .next (resIdxReg 7 .a .ix s.fetch2)

/-- `LD B,SET 0,(IX+d)` (DD CB d C0), R497. -/
def execLdBSet0AtIXd (s : State) : Outcome := .next (setIdxReg 0 .b .ix s.fetch2)

/-- `LD C,SET 0,(IX+d)` (DD CB d C1), R497. -/
def execLdCSet0AtIXd (s : State) : Outcome := .next (setIdxReg 0 .c .ix s.fetch2)

/-- `LD D,SET 0,(IX+d)` (DD CB d C2), R497. -/
def execLdDSet0AtIXd (s : State) : Outcome := .next (setIdxReg 0 .d .ix s.fetch2)

/-- `LD E,SET 0,(IX+d)` (DD CB d C3), R497. -/
def execLdESet0AtIXd (s : State) : Outcome := .next (setIdxReg 0 .e .ix s.fetch2)

/-- `LD H,SET 0,(IX+d)` (DD CB d C4), R497. -/
def execLdHSet0AtIXd (s : State) : Outcome := .next (setIdxReg 0 .h .ix s.fetch2)

/-- `LD L,SET 0,(IX+d)` (DD CB d C5), R497. -/
def execLdLSet0AtIXd (s : State) : Outcome := .next (setIdxReg 0 .l .ix s.fetch2)

/-- `SET 0,(IX+d)` (DD CB d C6), R496. -/
def execSet0AtIXd (s : State) : Outcome := .next (setIdx 0 .ix s.fetch2)

/-- `LD A,SET 0,(IX+d)` (DD CB d C7), R497. -/
def execLdASet0AtIXd (s : State) : Outcome := .next (setIdxReg 0 .a .ix s.fetch2)

/-- `LD B,SET 1,(IX+d)` (DD CB d C8), R497. -/
def execLdBSet1AtIXd (s : State) : Outcome := .next (setIdxReg 1 .b .ix s.fetch2)

/-- `LD C,SET 1,(IX+d)` (DD CB d C9), R497. -/
def execLdCSet1AtIXd (s : State) : Outcome := .next (setIdxReg 1 .c .ix s.fetch2)

/-- `LD D,SET 1,(IX+d)` (DD CB d CA), R497. -/
def execLdDSet1AtIXd (s : State) : Outcome := .next (setIdxReg 1 .d .ix s.fetch2)

/-- `LD E,SET 1,(IX+d)` (DD CB d CB), R497. -/
def execLdESet1AtIXd (s : State) : Outcome := .next (setIdxReg 1 .e .ix s.fetch2)

/-- `LD H,SET 1,(IX+d)` (DD CB d CC), R497. -/
def execLdHSet1AtIXd (s : State) : Outcome := .next (setIdxReg 1 .h .ix s.fetch2)

/-- `LD L,SET 1,(IX+d)` (DD CB d CD), R497. -/
def execLdLSet1AtIXd (s : State) : Outcome := .next (setIdxReg 1 .l .ix s.fetch2)

/-- `SET 1,(IX+d)` (DD CB d CE), R496. -/
def execSet1AtIXd (s : State) : Outcome := .next (setIdx 1 .ix s.fetch2)

/-- `LD A,SET 1,(IX+d)` (DD CB d CF), R497. -/
def execLdASet1AtIXd (s : State) : Outcome := .next (setIdxReg 1 .a .ix s.fetch2)

/-- `LD B,SET 2,(IX+d)` (DD CB d D0), R497. -/
def execLdBSet2AtIXd (s : State) : Outcome := .next (setIdxReg 2 .b .ix s.fetch2)

/-- `LD C,SET 2,(IX+d)` (DD CB d D1), R497. -/
def execLdCSet2AtIXd (s : State) : Outcome := .next (setIdxReg 2 .c .ix s.fetch2)

/-- `LD D,SET 2,(IX+d)` (DD CB d D2), R497. -/
def execLdDSet2AtIXd (s : State) : Outcome := .next (setIdxReg 2 .d .ix s.fetch2)

/-- `LD E,SET 2,(IX+d)` (DD CB d D3), R497. -/
def execLdESet2AtIXd (s : State) : Outcome := .next (setIdxReg 2 .e .ix s.fetch2)

/-- `LD H,SET 2,(IX+d)` (DD CB d D4), R497. -/
def execLdHSet2AtIXd (s : State) : Outcome := .next (setIdxReg 2 .h .ix s.fetch2)

/-- `LD L,SET 2,(IX+d)` (DD CB d D5), R497. -/
def execLdLSet2AtIXd (s : State) : Outcome := .next (setIdxReg 2 .l .ix s.fetch2)

/-- `SET 2,(IX+d)` (DD CB d D6), R496. -/
def execSet2AtIXd (s : State) : Outcome := .next (setIdx 2 .ix s.fetch2)

/-- `LD A,SET 2,(IX+d)` (DD CB d D7), R497. -/
def execLdASet2AtIXd (s : State) : Outcome := .next (setIdxReg 2 .a .ix s.fetch2)

/-- `LD B,SET 3,(IX+d)` (DD CB d D8), R497. -/
def execLdBSet3AtIXd (s : State) : Outcome := .next (setIdxReg 3 .b .ix s.fetch2)

/-- `LD C,SET 3,(IX+d)` (DD CB d D9), R497. -/
def execLdCSet3AtIXd (s : State) : Outcome := .next (setIdxReg 3 .c .ix s.fetch2)

/-- `LD D,SET 3,(IX+d)` (DD CB d DA), R497. -/
def execLdDSet3AtIXd (s : State) : Outcome := .next (setIdxReg 3 .d .ix s.fetch2)

/-- `LD E,SET 3,(IX+d)` (DD CB d DB), R497. -/
def execLdESet3AtIXd (s : State) : Outcome := .next (setIdxReg 3 .e .ix s.fetch2)

/-- `LD H,SET 3,(IX+d)` (DD CB d DC), R497. -/
def execLdHSet3AtIXd (s : State) : Outcome := .next (setIdxReg 3 .h .ix s.fetch2)

/-- `LD L,SET 3,(IX+d)` (DD CB d DD), R497. -/
def execLdLSet3AtIXd (s : State) : Outcome := .next (setIdxReg 3 .l .ix s.fetch2)

/-- `SET 3,(IX+d)` (DD CB d DE), R496. -/
def execSet3AtIXd (s : State) : Outcome := .next (setIdx 3 .ix s.fetch2)

/-- `LD A,SET 3,(IX+d)` (DD CB d DF), R497. -/
def execLdASet3AtIXd (s : State) : Outcome := .next (setIdxReg 3 .a .ix s.fetch2)

/-- `LD B,SET 4,(IX+d)` (DD CB d E0), R497. -/
def execLdBSet4AtIXd (s : State) : Outcome := .next (setIdxReg 4 .b .ix s.fetch2)

/-- `LD C,SET 4,(IX+d)` (DD CB d E1), R497. -/
def execLdCSet4AtIXd (s : State) : Outcome := .next (setIdxReg 4 .c .ix s.fetch2)

/-- `LD D,SET 4,(IX+d)` (DD CB d E2), R497. -/
def execLdDSet4AtIXd (s : State) : Outcome := .next (setIdxReg 4 .d .ix s.fetch2)

/-- `LD E,SET 4,(IX+d)` (DD CB d E3), R497. -/
def execLdESet4AtIXd (s : State) : Outcome := .next (setIdxReg 4 .e .ix s.fetch2)

/-- `LD H,SET 4,(IX+d)` (DD CB d E4), R497. -/
def execLdHSet4AtIXd (s : State) : Outcome := .next (setIdxReg 4 .h .ix s.fetch2)

/-- `LD L,SET 4,(IX+d)` (DD CB d E5), R497. -/
def execLdLSet4AtIXd (s : State) : Outcome := .next (setIdxReg 4 .l .ix s.fetch2)

/-- `SET 4,(IX+d)` (DD CB d E6), R496. -/
def execSet4AtIXd (s : State) : Outcome := .next (setIdx 4 .ix s.fetch2)

/-- `LD A,SET 4,(IX+d)` (DD CB d E7), R497. -/
def execLdASet4AtIXd (s : State) : Outcome := .next (setIdxReg 4 .a .ix s.fetch2)

/-- `LD B,SET 5,(IX+d)` (DD CB d E8), R497. -/
def execLdBSet5AtIXd (s : State) : Outcome := .next (setIdxReg 5 .b .ix s.fetch2)

/-- `LD C,SET 5,(IX+d)` (DD CB d E9), R497. -/
def execLdCSet5AtIXd (s : State) : Outcome := .next (setIdxReg 5 .c .ix s.fetch2)

/-- `LD D,SET 5,(IX+d)` (DD CB d EA), R497. -/
def execLdDSet5AtIXd (s : State) : Outcome := .next (setIdxReg 5 .d .ix s.fetch2)

/-- `LD E,SET 5,(IX+d)` (DD CB d EB), R497. -/
def execLdESet5AtIXd (s : State) : Outcome := .next (setIdxReg 5 .e .ix s.fetch2)

/-- `LD H,SET 5,(IX+d)` (DD CB d EC), R497. -/
def execLdHSet5AtIXd (s : State) : Outcome := .next (setIdxReg 5 .h .ix s.fetch2)

/-- `LD L,SET 5,(IX+d)` (DD CB d ED), R497. -/
def execLdLSet5AtIXd (s : State) : Outcome := .next (setIdxReg 5 .l .ix s.fetch2)

/-- `SET 5,(IX+d)` (DD CB d EE), R496. -/
def execSet5AtIXd (s : State) : Outcome := .next (setIdx 5 .ix s.fetch2)

/-- `LD A,SET 5,(IX+d)` (DD CB d EF), R497. -/
def execLdASet5AtIXd (s : State) : Outcome := .next (setIdxReg 5 .a .ix s.fetch2)

/-- `LD B,SET 6,(IX+d)` (DD CB d F0), R497. -/
def execLdBSet6AtIXd (s : State) : Outcome := .next (setIdxReg 6 .b .ix s.fetch2)

/-- `LD C,SET 6,(IX+d)` (DD CB d F1), R497. -/
def execLdCSet6AtIXd (s : State) : Outcome := .next (setIdxReg 6 .c .ix s.fetch2)

/-- `LD D,SET 6,(IX+d)` (DD CB d F2), R497. -/
def execLdDSet6AtIXd (s : State) : Outcome := .next (setIdxReg 6 .d .ix s.fetch2)

/-- `LD E,SET 6,(IX+d)` (DD CB d F3), R497. -/
def execLdESet6AtIXd (s : State) : Outcome := .next (setIdxReg 6 .e .ix s.fetch2)

/-- `LD H,SET 6,(IX+d)` (DD CB d F4), R497. -/
def execLdHSet6AtIXd (s : State) : Outcome := .next (setIdxReg 6 .h .ix s.fetch2)

/-- `LD L,SET 6,(IX+d)` (DD CB d F5), R497. -/
def execLdLSet6AtIXd (s : State) : Outcome := .next (setIdxReg 6 .l .ix s.fetch2)

/-- `SET 6,(IX+d)` (DD CB d F6), R496. -/
def execSet6AtIXd (s : State) : Outcome := .next (setIdx 6 .ix s.fetch2)

/-- `LD A,SET 6,(IX+d)` (DD CB d F7), R497. -/
def execLdASet6AtIXd (s : State) : Outcome := .next (setIdxReg 6 .a .ix s.fetch2)

/-- `LD B,SET 7,(IX+d)` (DD CB d F8), R497. -/
def execLdBSet7AtIXd (s : State) : Outcome := .next (setIdxReg 7 .b .ix s.fetch2)

/-- `LD C,SET 7,(IX+d)` (DD CB d F9), R497. -/
def execLdCSet7AtIXd (s : State) : Outcome := .next (setIdxReg 7 .c .ix s.fetch2)

/-- `LD D,SET 7,(IX+d)` (DD CB d FA), R497. -/
def execLdDSet7AtIXd (s : State) : Outcome := .next (setIdxReg 7 .d .ix s.fetch2)

/-- `LD E,SET 7,(IX+d)` (DD CB d FB), R497. -/
def execLdESet7AtIXd (s : State) : Outcome := .next (setIdxReg 7 .e .ix s.fetch2)

/-- `LD H,SET 7,(IX+d)` (DD CB d FC), R497. -/
def execLdHSet7AtIXd (s : State) : Outcome := .next (setIdxReg 7 .h .ix s.fetch2)

/-- `LD L,SET 7,(IX+d)` (DD CB d FD), R497. -/
def execLdLSet7AtIXd (s : State) : Outcome := .next (setIdxReg 7 .l .ix s.fetch2)

/-- `SET 7,(IX+d)` (DD CB d FE), R496. -/
def execSet7AtIXd (s : State) : Outcome := .next (setIdx 7 .ix s.fetch2)

/-- `LD A,SET 7,(IX+d)` (DD CB d FF), R497. -/
def execLdASet7AtIXd (s : State) : Outcome := .next (setIdxReg 7 .a .ix s.fetch2)

/-- `LD B,RLC (IY+d)` (FD CB d 00), R492. -/
def execLdBRlcAtIYd (s : State) : Outcome := .next (rotIdxReg .rlc .b .iy s.fetch2)

/-- `LD C,RLC (IY+d)` (FD CB d 01), R492. -/
def execLdCRlcAtIYd (s : State) : Outcome := .next (rotIdxReg .rlc .c .iy s.fetch2)

/-- `LD D,RLC (IY+d)` (FD CB d 02), R492. -/
def execLdDRlcAtIYd (s : State) : Outcome := .next (rotIdxReg .rlc .d .iy s.fetch2)

/-- `LD E,RLC (IY+d)` (FD CB d 03), R492. -/
def execLdERlcAtIYd (s : State) : Outcome := .next (rotIdxReg .rlc .e .iy s.fetch2)

/-- `LD H,RLC (IY+d)` (FD CB d 04), R492. -/
def execLdHRlcAtIYd (s : State) : Outcome := .next (rotIdxReg .rlc .h .iy s.fetch2)

/-- `LD L,RLC (IY+d)` (FD CB d 05), R492. -/
def execLdLRlcAtIYd (s : State) : Outcome := .next (rotIdxReg .rlc .l .iy s.fetch2)

/-- `RLC (IY+d)` (FD CB d 06), R491. -/
def execRlcAtIYd (s : State) : Outcome := .next (rotIdx .rlc .iy s.fetch2)

/-- `LD A,RLC (IY+d)` (FD CB d 07), R492. -/
def execLdARlcAtIYd (s : State) : Outcome := .next (rotIdxReg .rlc .a .iy s.fetch2)

/-- `LD B,RRC (IY+d)` (FD CB d 08), R492. -/
def execLdBRrcAtIYd (s : State) : Outcome := .next (rotIdxReg .rrc .b .iy s.fetch2)

/-- `LD C,RRC (IY+d)` (FD CB d 09), R492. -/
def execLdCRrcAtIYd (s : State) : Outcome := .next (rotIdxReg .rrc .c .iy s.fetch2)

/-- `LD D,RRC (IY+d)` (FD CB d 0A), R492. -/
def execLdDRrcAtIYd (s : State) : Outcome := .next (rotIdxReg .rrc .d .iy s.fetch2)

/-- `LD E,RRC (IY+d)` (FD CB d 0B), R492. -/
def execLdERrcAtIYd (s : State) : Outcome := .next (rotIdxReg .rrc .e .iy s.fetch2)

/-- `LD H,RRC (IY+d)` (FD CB d 0C), R492. -/
def execLdHRrcAtIYd (s : State) : Outcome := .next (rotIdxReg .rrc .h .iy s.fetch2)

/-- `LD L,RRC (IY+d)` (FD CB d 0D), R492. -/
def execLdLRrcAtIYd (s : State) : Outcome := .next (rotIdxReg .rrc .l .iy s.fetch2)

/-- `RRC (IY+d)` (FD CB d 0E), R491. -/
def execRrcAtIYd (s : State) : Outcome := .next (rotIdx .rrc .iy s.fetch2)

/-- `LD A,RRC (IY+d)` (FD CB d 0F), R492. -/
def execLdARrcAtIYd (s : State) : Outcome := .next (rotIdxReg .rrc .a .iy s.fetch2)

/-- `LD B,RL (IY+d)` (FD CB d 10), R492. -/
def execLdBRlAtIYd (s : State) : Outcome := .next (rotIdxReg .rl .b .iy s.fetch2)

/-- `LD C,RL (IY+d)` (FD CB d 11), R492. -/
def execLdCRlAtIYd (s : State) : Outcome := .next (rotIdxReg .rl .c .iy s.fetch2)

/-- `LD D,RL (IY+d)` (FD CB d 12), R492. -/
def execLdDRlAtIYd (s : State) : Outcome := .next (rotIdxReg .rl .d .iy s.fetch2)

/-- `LD E,RL (IY+d)` (FD CB d 13), R492. -/
def execLdERlAtIYd (s : State) : Outcome := .next (rotIdxReg .rl .e .iy s.fetch2)

/-- `LD H,RL (IY+d)` (FD CB d 14), R492. -/
def execLdHRlAtIYd (s : State) : Outcome := .next (rotIdxReg .rl .h .iy s.fetch2)

/-- `LD L,RL (IY+d)` (FD CB d 15), R492. -/
def execLdLRlAtIYd (s : State) : Outcome := .next (rotIdxReg .rl .l .iy s.fetch2)

/-- `RL (IY+d)` (FD CB d 16), R491. -/
def execRlAtIYd (s : State) : Outcome := .next (rotIdx .rl .iy s.fetch2)

/-- `LD A,RL (IY+d)` (FD CB d 17), R492. -/
def execLdARlAtIYd (s : State) : Outcome := .next (rotIdxReg .rl .a .iy s.fetch2)

/-- `LD B,RR (IY+d)` (FD CB d 18), R492. -/
def execLdBRrAtIYd (s : State) : Outcome := .next (rotIdxReg .rr .b .iy s.fetch2)

/-- `LD C,RR (IY+d)` (FD CB d 19), R492. -/
def execLdCRrAtIYd (s : State) : Outcome := .next (rotIdxReg .rr .c .iy s.fetch2)

/-- `LD D,RR (IY+d)` (FD CB d 1A), R492. -/
def execLdDRrAtIYd (s : State) : Outcome := .next (rotIdxReg .rr .d .iy s.fetch2)

/-- `LD E,RR (IY+d)` (FD CB d 1B), R492. -/
def execLdERrAtIYd (s : State) : Outcome := .next (rotIdxReg .rr .e .iy s.fetch2)

/-- `LD H,RR (IY+d)` (FD CB d 1C), R492. -/
def execLdHRrAtIYd (s : State) : Outcome := .next (rotIdxReg .rr .h .iy s.fetch2)

/-- `LD L,RR (IY+d)` (FD CB d 1D), R492. -/
def execLdLRrAtIYd (s : State) : Outcome := .next (rotIdxReg .rr .l .iy s.fetch2)

/-- `RR (IY+d)` (FD CB d 1E), R491. -/
def execRrAtIYd (s : State) : Outcome := .next (rotIdx .rr .iy s.fetch2)

/-- `LD A,RR (IY+d)` (FD CB d 1F), R492. -/
def execLdARrAtIYd (s : State) : Outcome := .next (rotIdxReg .rr .a .iy s.fetch2)

/-- `LD B,SLA (IY+d)` (FD CB d 20), R492. -/
def execLdBSlaAtIYd (s : State) : Outcome := .next (rotIdxReg .sla .b .iy s.fetch2)

/-- `LD C,SLA (IY+d)` (FD CB d 21), R492. -/
def execLdCSlaAtIYd (s : State) : Outcome := .next (rotIdxReg .sla .c .iy s.fetch2)

/-- `LD D,SLA (IY+d)` (FD CB d 22), R492. -/
def execLdDSlaAtIYd (s : State) : Outcome := .next (rotIdxReg .sla .d .iy s.fetch2)

/-- `LD E,SLA (IY+d)` (FD CB d 23), R492. -/
def execLdESlaAtIYd (s : State) : Outcome := .next (rotIdxReg .sla .e .iy s.fetch2)

/-- `LD H,SLA (IY+d)` (FD CB d 24), R492. -/
def execLdHSlaAtIYd (s : State) : Outcome := .next (rotIdxReg .sla .h .iy s.fetch2)

/-- `LD L,SLA (IY+d)` (FD CB d 25), R492. -/
def execLdLSlaAtIYd (s : State) : Outcome := .next (rotIdxReg .sla .l .iy s.fetch2)

/-- `SLA (IY+d)` (FD CB d 26), R491. -/
def execSlaAtIYd (s : State) : Outcome := .next (rotIdx .sla .iy s.fetch2)

/-- `LD A,SLA (IY+d)` (FD CB d 27), R492. -/
def execLdASlaAtIYd (s : State) : Outcome := .next (rotIdxReg .sla .a .iy s.fetch2)

/-- `LD B,SRA (IY+d)` (FD CB d 28), R492. -/
def execLdBSraAtIYd (s : State) : Outcome := .next (rotIdxReg .sra .b .iy s.fetch2)

/-- `LD C,SRA (IY+d)` (FD CB d 29), R492. -/
def execLdCSraAtIYd (s : State) : Outcome := .next (rotIdxReg .sra .c .iy s.fetch2)

/-- `LD D,SRA (IY+d)` (FD CB d 2A), R492. -/
def execLdDSraAtIYd (s : State) : Outcome := .next (rotIdxReg .sra .d .iy s.fetch2)

/-- `LD E,SRA (IY+d)` (FD CB d 2B), R492. -/
def execLdESraAtIYd (s : State) : Outcome := .next (rotIdxReg .sra .e .iy s.fetch2)

/-- `LD H,SRA (IY+d)` (FD CB d 2C), R492. -/
def execLdHSraAtIYd (s : State) : Outcome := .next (rotIdxReg .sra .h .iy s.fetch2)

/-- `LD L,SRA (IY+d)` (FD CB d 2D), R492. -/
def execLdLSraAtIYd (s : State) : Outcome := .next (rotIdxReg .sra .l .iy s.fetch2)

/-- `SRA (IY+d)` (FD CB d 2E), R491. -/
def execSraAtIYd (s : State) : Outcome := .next (rotIdx .sra .iy s.fetch2)

/-- `LD A,SRA (IY+d)` (FD CB d 2F), R492. -/
def execLdASraAtIYd (s : State) : Outcome := .next (rotIdxReg .sra .a .iy s.fetch2)

/-- `LD B,SLL (IY+d)` (FD CB d 30), R492. -/
def execLdBSllAtIYd (s : State) : Outcome := .next (rotIdxReg .sll .b .iy s.fetch2)

/-- `LD C,SLL (IY+d)` (FD CB d 31), R492. -/
def execLdCSllAtIYd (s : State) : Outcome := .next (rotIdxReg .sll .c .iy s.fetch2)

/-- `LD D,SLL (IY+d)` (FD CB d 32), R492. -/
def execLdDSllAtIYd (s : State) : Outcome := .next (rotIdxReg .sll .d .iy s.fetch2)

/-- `LD E,SLL (IY+d)` (FD CB d 33), R492. -/
def execLdESllAtIYd (s : State) : Outcome := .next (rotIdxReg .sll .e .iy s.fetch2)

/-- `LD H,SLL (IY+d)` (FD CB d 34), R492. -/
def execLdHSllAtIYd (s : State) : Outcome := .next (rotIdxReg .sll .h .iy s.fetch2)

/-- `LD L,SLL (IY+d)` (FD CB d 35), R492. -/
def execLdLSllAtIYd (s : State) : Outcome := .next (rotIdxReg .sll .l .iy s.fetch2)

/-- `SLL (IY+d)` (FD CB d 36), R491. -/
def execSllAtIYd (s : State) : Outcome := .next (rotIdx .sll .iy s.fetch2)

/-- `LD A,SLL (IY+d)` (FD CB d 37), R492. -/
def execLdASllAtIYd (s : State) : Outcome := .next (rotIdxReg .sll .a .iy s.fetch2)

/-- `LD B,SRL (IY+d)` (FD CB d 38), R492. -/
def execLdBSrlAtIYd (s : State) : Outcome := .next (rotIdxReg .srl .b .iy s.fetch2)

/-- `LD C,SRL (IY+d)` (FD CB d 39), R492. -/
def execLdCSrlAtIYd (s : State) : Outcome := .next (rotIdxReg .srl .c .iy s.fetch2)

/-- `LD D,SRL (IY+d)` (FD CB d 3A), R492. -/
def execLdDSrlAtIYd (s : State) : Outcome := .next (rotIdxReg .srl .d .iy s.fetch2)

/-- `LD E,SRL (IY+d)` (FD CB d 3B), R492. -/
def execLdESrlAtIYd (s : State) : Outcome := .next (rotIdxReg .srl .e .iy s.fetch2)

/-- `LD H,SRL (IY+d)` (FD CB d 3C), R492. -/
def execLdHSrlAtIYd (s : State) : Outcome := .next (rotIdxReg .srl .h .iy s.fetch2)

/-- `LD L,SRL (IY+d)` (FD CB d 3D), R492. -/
def execLdLSrlAtIYd (s : State) : Outcome := .next (rotIdxReg .srl .l .iy s.fetch2)

/-- `SRL (IY+d)` (FD CB d 3E), R491. -/
def execSrlAtIYd (s : State) : Outcome := .next (rotIdx .srl .iy s.fetch2)

/-- `LD A,SRL (IY+d)` (FD CB d 3F), R492. -/
def execLdASrlAtIYd (s : State) : Outcome := .next (rotIdxReg .srl .a .iy s.fetch2)

/-- `LD B,RES 0,(IY+d)` (FD CB d 80), R495. -/
def execLdBRes0AtIYd (s : State) : Outcome := .next (resIdxReg 0 .b .iy s.fetch2)

/-- `LD C,RES 0,(IY+d)` (FD CB d 81), R495. -/
def execLdCRes0AtIYd (s : State) : Outcome := .next (resIdxReg 0 .c .iy s.fetch2)

/-- `LD D,RES 0,(IY+d)` (FD CB d 82), R495. -/
def execLdDRes0AtIYd (s : State) : Outcome := .next (resIdxReg 0 .d .iy s.fetch2)

/-- `LD E,RES 0,(IY+d)` (FD CB d 83), R495. -/
def execLdERes0AtIYd (s : State) : Outcome := .next (resIdxReg 0 .e .iy s.fetch2)

/-- `LD H,RES 0,(IY+d)` (FD CB d 84), R495. -/
def execLdHRes0AtIYd (s : State) : Outcome := .next (resIdxReg 0 .h .iy s.fetch2)

/-- `LD L,RES 0,(IY+d)` (FD CB d 85), R495. -/
def execLdLRes0AtIYd (s : State) : Outcome := .next (resIdxReg 0 .l .iy s.fetch2)

/-- `RES 0,(IY+d)` (FD CB d 86), R494. -/
def execRes0AtIYd (s : State) : Outcome := .next (resIdx 0 .iy s.fetch2)

/-- `LD A,RES 0,(IY+d)` (FD CB d 87), R495. -/
def execLdARes0AtIYd (s : State) : Outcome := .next (resIdxReg 0 .a .iy s.fetch2)

/-- `LD B,RES 1,(IY+d)` (FD CB d 88), R495. -/
def execLdBRes1AtIYd (s : State) : Outcome := .next (resIdxReg 1 .b .iy s.fetch2)

/-- `LD C,RES 1,(IY+d)` (FD CB d 89), R495. -/
def execLdCRes1AtIYd (s : State) : Outcome := .next (resIdxReg 1 .c .iy s.fetch2)

/-- `LD D,RES 1,(IY+d)` (FD CB d 8A), R495. -/
def execLdDRes1AtIYd (s : State) : Outcome := .next (resIdxReg 1 .d .iy s.fetch2)

/-- `LD E,RES 1,(IY+d)` (FD CB d 8B), R495. -/
def execLdERes1AtIYd (s : State) : Outcome := .next (resIdxReg 1 .e .iy s.fetch2)

/-- `LD H,RES 1,(IY+d)` (FD CB d 8C), R495. -/
def execLdHRes1AtIYd (s : State) : Outcome := .next (resIdxReg 1 .h .iy s.fetch2)

/-- `LD L,RES 1,(IY+d)` (FD CB d 8D), R495. -/
def execLdLRes1AtIYd (s : State) : Outcome := .next (resIdxReg 1 .l .iy s.fetch2)

/-- `RES 1,(IY+d)` (FD CB d 8E), R494. -/
def execRes1AtIYd (s : State) : Outcome := .next (resIdx 1 .iy s.fetch2)

/-- `LD A,RES 1,(IY+d)` (FD CB d 8F), R495. -/
def execLdARes1AtIYd (s : State) : Outcome := .next (resIdxReg 1 .a .iy s.fetch2)

/-- `LD B,RES 2,(IY+d)` (FD CB d 90), R495. -/
def execLdBRes2AtIYd (s : State) : Outcome := .next (resIdxReg 2 .b .iy s.fetch2)

/-- `LD C,RES 2,(IY+d)` (FD CB d 91), R495. -/
def execLdCRes2AtIYd (s : State) : Outcome := .next (resIdxReg 2 .c .iy s.fetch2)

/-- `LD D,RES 2,(IY+d)` (FD CB d 92), R495. -/
def execLdDRes2AtIYd (s : State) : Outcome := .next (resIdxReg 2 .d .iy s.fetch2)

/-- `LD E,RES 2,(IY+d)` (FD CB d 93), R495. -/
def execLdERes2AtIYd (s : State) : Outcome := .next (resIdxReg 2 .e .iy s.fetch2)

/-- `LD H,RES 2,(IY+d)` (FD CB d 94), R495. -/
def execLdHRes2AtIYd (s : State) : Outcome := .next (resIdxReg 2 .h .iy s.fetch2)

/-- `LD L,RES 2,(IY+d)` (FD CB d 95), R495. -/
def execLdLRes2AtIYd (s : State) : Outcome := .next (resIdxReg 2 .l .iy s.fetch2)

/-- `RES 2,(IY+d)` (FD CB d 96), R494. -/
def execRes2AtIYd (s : State) : Outcome := .next (resIdx 2 .iy s.fetch2)

/-- `LD A,RES 2,(IY+d)` (FD CB d 97), R495. -/
def execLdARes2AtIYd (s : State) : Outcome := .next (resIdxReg 2 .a .iy s.fetch2)

/-- `LD B,RES 3,(IY+d)` (FD CB d 98), R495. -/
def execLdBRes3AtIYd (s : State) : Outcome := .next (resIdxReg 3 .b .iy s.fetch2)

/-- `LD C,RES 3,(IY+d)` (FD CB d 99), R495. -/
def execLdCRes3AtIYd (s : State) : Outcome := .next (resIdxReg 3 .c .iy s.fetch2)

/-- `LD D,RES 3,(IY+d)` (FD CB d 9A), R495. -/
def execLdDRes3AtIYd (s : State) : Outcome := .next (resIdxReg 3 .d .iy s.fetch2)

/-- `LD E,RES 3,(IY+d)` (FD CB d 9B), R495. -/
def execLdERes3AtIYd (s : State) : Outcome := .next (resIdxReg 3 .e .iy s.fetch2)

/-- `LD H,RES 3,(IY+d)` (FD CB d 9C), R495. -/
def execLdHRes3AtIYd (s : State) : Outcome := .next (resIdxReg 3 .h .iy s.fetch2)

/-- `LD L,RES 3,(IY+d)` (FD CB d 9D), R495. -/
def execLdLRes3AtIYd (s : State) : Outcome := .next (resIdxReg 3 .l .iy s.fetch2)

/-- `RES 3,(IY+d)` (FD CB d 9E), R494. -/
def execRes3AtIYd (s : State) : Outcome := .next (resIdx 3 .iy s.fetch2)

/-- `LD A,RES 3,(IY+d)` (FD CB d 9F), R495. -/
def execLdARes3AtIYd (s : State) : Outcome := .next (resIdxReg 3 .a .iy s.fetch2)

/-- `LD B,RES 4,(IY+d)` (FD CB d A0), R495. -/
def execLdBRes4AtIYd (s : State) : Outcome := .next (resIdxReg 4 .b .iy s.fetch2)

/-- `LD C,RES 4,(IY+d)` (FD CB d A1), R495. -/
def execLdCRes4AtIYd (s : State) : Outcome := .next (resIdxReg 4 .c .iy s.fetch2)

/-- `LD D,RES 4,(IY+d)` (FD CB d A2), R495. -/
def execLdDRes4AtIYd (s : State) : Outcome := .next (resIdxReg 4 .d .iy s.fetch2)

/-- `LD E,RES 4,(IY+d)` (FD CB d A3), R495. -/
def execLdERes4AtIYd (s : State) : Outcome := .next (resIdxReg 4 .e .iy s.fetch2)

/-- `LD H,RES 4,(IY+d)` (FD CB d A4), R495. -/
def execLdHRes4AtIYd (s : State) : Outcome := .next (resIdxReg 4 .h .iy s.fetch2)

/-- `LD L,RES 4,(IY+d)` (FD CB d A5), R495. -/
def execLdLRes4AtIYd (s : State) : Outcome := .next (resIdxReg 4 .l .iy s.fetch2)

/-- `RES 4,(IY+d)` (FD CB d A6), R494. -/
def execRes4AtIYd (s : State) : Outcome := .next (resIdx 4 .iy s.fetch2)

/-- `LD A,RES 4,(IY+d)` (FD CB d A7), R495. -/
def execLdARes4AtIYd (s : State) : Outcome := .next (resIdxReg 4 .a .iy s.fetch2)

/-- `LD B,RES 5,(IY+d)` (FD CB d A8), R495. -/
def execLdBRes5AtIYd (s : State) : Outcome := .next (resIdxReg 5 .b .iy s.fetch2)

/-- `LD C,RES 5,(IY+d)` (FD CB d A9), R495. -/
def execLdCRes5AtIYd (s : State) : Outcome := .next (resIdxReg 5 .c .iy s.fetch2)

/-- `LD D,RES 5,(IY+d)` (FD CB d AA), R495. -/
def execLdDRes5AtIYd (s : State) : Outcome := .next (resIdxReg 5 .d .iy s.fetch2)

/-- `LD E,RES 5,(IY+d)` (FD CB d AB), R495. -/
def execLdERes5AtIYd (s : State) : Outcome := .next (resIdxReg 5 .e .iy s.fetch2)

/-- `LD H,RES 5,(IY+d)` (FD CB d AC), R495. -/
def execLdHRes5AtIYd (s : State) : Outcome := .next (resIdxReg 5 .h .iy s.fetch2)

/-- `LD L,RES 5,(IY+d)` (FD CB d AD), R495. -/
def execLdLRes5AtIYd (s : State) : Outcome := .next (resIdxReg 5 .l .iy s.fetch2)

/-- `RES 5,(IY+d)` (FD CB d AE), R494. -/
def execRes5AtIYd (s : State) : Outcome := .next (resIdx 5 .iy s.fetch2)

/-- `LD A,RES 5,(IY+d)` (FD CB d AF), R495. -/
def execLdARes5AtIYd (s : State) : Outcome := .next (resIdxReg 5 .a .iy s.fetch2)

/-- `LD B,RES 6,(IY+d)` (FD CB d B0), R495. -/
def execLdBRes6AtIYd (s : State) : Outcome := .next (resIdxReg 6 .b .iy s.fetch2)

/-- `LD C,RES 6,(IY+d)` (FD CB d B1), R495. -/
def execLdCRes6AtIYd (s : State) : Outcome := .next (resIdxReg 6 .c .iy s.fetch2)

/-- `LD D,RES 6,(IY+d)` (FD CB d B2), R495. -/
def execLdDRes6AtIYd (s : State) : Outcome := .next (resIdxReg 6 .d .iy s.fetch2)

/-- `LD E,RES 6,(IY+d)` (FD CB d B3), R495. -/
def execLdERes6AtIYd (s : State) : Outcome := .next (resIdxReg 6 .e .iy s.fetch2)

/-- `LD H,RES 6,(IY+d)` (FD CB d B4), R495. -/
def execLdHRes6AtIYd (s : State) : Outcome := .next (resIdxReg 6 .h .iy s.fetch2)

/-- `LD L,RES 6,(IY+d)` (FD CB d B5), R495. -/
def execLdLRes6AtIYd (s : State) : Outcome := .next (resIdxReg 6 .l .iy s.fetch2)

/-- `RES 6,(IY+d)` (FD CB d B6), R494. -/
def execRes6AtIYd (s : State) : Outcome := .next (resIdx 6 .iy s.fetch2)

/-- `LD A,RES 6,(IY+d)` (FD CB d B7), R495. -/
def execLdARes6AtIYd (s : State) : Outcome := .next (resIdxReg 6 .a .iy s.fetch2)

/-- `LD B,RES 7,(IY+d)` (FD CB d B8), R495. -/
def execLdBRes7AtIYd (s : State) : Outcome := .next (resIdxReg 7 .b .iy s.fetch2)

/-- `LD C,RES 7,(IY+d)` (FD CB d B9), R495. -/
def execLdCRes7AtIYd (s : State) : Outcome := .next (resIdxReg 7 .c .iy s.fetch2)

/-- `LD D,RES 7,(IY+d)` (FD CB d BA), R495. -/
def execLdDRes7AtIYd (s : State) : Outcome := .next (resIdxReg 7 .d .iy s.fetch2)

/-- `LD E,RES 7,(IY+d)` (FD CB d BB), R495. -/
def execLdERes7AtIYd (s : State) : Outcome := .next (resIdxReg 7 .e .iy s.fetch2)

/-- `LD H,RES 7,(IY+d)` (FD CB d BC), R495. -/
def execLdHRes7AtIYd (s : State) : Outcome := .next (resIdxReg 7 .h .iy s.fetch2)

/-- `LD L,RES 7,(IY+d)` (FD CB d BD), R495. -/
def execLdLRes7AtIYd (s : State) : Outcome := .next (resIdxReg 7 .l .iy s.fetch2)

/-- `RES 7,(IY+d)` (FD CB d BE), R494. -/
def execRes7AtIYd (s : State) : Outcome := .next (resIdx 7 .iy s.fetch2)

/-- `LD A,RES 7,(IY+d)` (FD CB d BF), R495. -/
def execLdARes7AtIYd (s : State) : Outcome := .next (resIdxReg 7 .a .iy s.fetch2)

/-- `LD B,SET 0,(IY+d)` (FD CB d C0), R497. -/
def execLdBSet0AtIYd (s : State) : Outcome := .next (setIdxReg 0 .b .iy s.fetch2)

/-- `LD C,SET 0,(IY+d)` (FD CB d C1), R497. -/
def execLdCSet0AtIYd (s : State) : Outcome := .next (setIdxReg 0 .c .iy s.fetch2)

/-- `LD D,SET 0,(IY+d)` (FD CB d C2), R497. -/
def execLdDSet0AtIYd (s : State) : Outcome := .next (setIdxReg 0 .d .iy s.fetch2)

/-- `LD E,SET 0,(IY+d)` (FD CB d C3), R497. -/
def execLdESet0AtIYd (s : State) : Outcome := .next (setIdxReg 0 .e .iy s.fetch2)

/-- `LD H,SET 0,(IY+d)` (FD CB d C4), R497. -/
def execLdHSet0AtIYd (s : State) : Outcome := .next (setIdxReg 0 .h .iy s.fetch2)

/-- `LD L,SET 0,(IY+d)` (FD CB d C5), R497. -/
def execLdLSet0AtIYd (s : State) : Outcome := .next (setIdxReg 0 .l .iy s.fetch2)

/-- `SET 0,(IY+d)` (FD CB d C6), R496. -/
def execSet0AtIYd (s : State) : Outcome := .next (setIdx 0 .iy s.fetch2)

/-- `LD A,SET 0,(IY+d)` (FD CB d C7), R497. -/
def execLdASet0AtIYd (s : State) : Outcome := .next (setIdxReg 0 .a .iy s.fetch2)

/-- `LD B,SET 1,(IY+d)` (FD CB d C8), R497. -/
def execLdBSet1AtIYd (s : State) : Outcome := .next (setIdxReg 1 .b .iy s.fetch2)

/-- `LD C,SET 1,(IY+d)` (FD CB d C9), R497. -/
def execLdCSet1AtIYd (s : State) : Outcome := .next (setIdxReg 1 .c .iy s.fetch2)

/-- `LD D,SET 1,(IY+d)` (FD CB d CA), R497. -/
def execLdDSet1AtIYd (s : State) : Outcome := .next (setIdxReg 1 .d .iy s.fetch2)

/-- `LD E,SET 1,(IY+d)` (FD CB d CB), R497. -/
def execLdESet1AtIYd (s : State) : Outcome := .next (setIdxReg 1 .e .iy s.fetch2)

/-- `LD H,SET 1,(IY+d)` (FD CB d CC), R497. -/
def execLdHSet1AtIYd (s : State) : Outcome := .next (setIdxReg 1 .h .iy s.fetch2)

/-- `LD L,SET 1,(IY+d)` (FD CB d CD), R497. -/
def execLdLSet1AtIYd (s : State) : Outcome := .next (setIdxReg 1 .l .iy s.fetch2)

/-- `SET 1,(IY+d)` (FD CB d CE), R496. -/
def execSet1AtIYd (s : State) : Outcome := .next (setIdx 1 .iy s.fetch2)

/-- `LD A,SET 1,(IY+d)` (FD CB d CF), R497. -/
def execLdASet1AtIYd (s : State) : Outcome := .next (setIdxReg 1 .a .iy s.fetch2)

/-- `LD B,SET 2,(IY+d)` (FD CB d D0), R497. -/
def execLdBSet2AtIYd (s : State) : Outcome := .next (setIdxReg 2 .b .iy s.fetch2)

/-- `LD C,SET 2,(IY+d)` (FD CB d D1), R497. -/
def execLdCSet2AtIYd (s : State) : Outcome := .next (setIdxReg 2 .c .iy s.fetch2)

/-- `LD D,SET 2,(IY+d)` (FD CB d D2), R497. -/
def execLdDSet2AtIYd (s : State) : Outcome := .next (setIdxReg 2 .d .iy s.fetch2)

/-- `LD E,SET 2,(IY+d)` (FD CB d D3), R497. -/
def execLdESet2AtIYd (s : State) : Outcome := .next (setIdxReg 2 .e .iy s.fetch2)

/-- `LD H,SET 2,(IY+d)` (FD CB d D4), R497. -/
def execLdHSet2AtIYd (s : State) : Outcome := .next (setIdxReg 2 .h .iy s.fetch2)

/-- `LD L,SET 2,(IY+d)` (FD CB d D5), R497. -/
def execLdLSet2AtIYd (s : State) : Outcome := .next (setIdxReg 2 .l .iy s.fetch2)

/-- `SET 2,(IY+d)` (FD CB d D6), R496. -/
def execSet2AtIYd (s : State) : Outcome := .next (setIdx 2 .iy s.fetch2)

/-- `LD A,SET 2,(IY+d)` (FD CB d D7), R497. -/
def execLdASet2AtIYd (s : State) : Outcome := .next (setIdxReg 2 .a .iy s.fetch2)

/-- `LD B,SET 3,(IY+d)` (FD CB d D8), R497. -/
def execLdBSet3AtIYd (s : State) : Outcome := .next (setIdxReg 3 .b .iy s.fetch2)

/-- `LD C,SET 3,(IY+d)` (FD CB d D9), R497. -/
def execLdCSet3AtIYd (s : State) : Outcome := .next (setIdxReg 3 .c .iy s.fetch2)

/-- `LD D,SET 3,(IY+d)` (FD CB d DA), R497. -/
def execLdDSet3AtIYd (s : State) : Outcome := .next (setIdxReg 3 .d .iy s.fetch2)

/-- `LD E,SET 3,(IY+d)` (FD CB d DB), R497. -/
def execLdESet3AtIYd (s : State) : Outcome := .next (setIdxReg 3 .e .iy s.fetch2)

/-- `LD H,SET 3,(IY+d)` (FD CB d DC), R497. -/
def execLdHSet3AtIYd (s : State) : Outcome := .next (setIdxReg 3 .h .iy s.fetch2)

/-- `LD L,SET 3,(IY+d)` (FD CB d DD), R497. -/
def execLdLSet3AtIYd (s : State) : Outcome := .next (setIdxReg 3 .l .iy s.fetch2)

/-- `SET 3,(IY+d)` (FD CB d DE), R496. -/
def execSet3AtIYd (s : State) : Outcome := .next (setIdx 3 .iy s.fetch2)

/-- `LD A,SET 3,(IY+d)` (FD CB d DF), R497. -/
def execLdASet3AtIYd (s : State) : Outcome := .next (setIdxReg 3 .a .iy s.fetch2)

/-- `LD B,SET 4,(IY+d)` (FD CB d E0), R497. -/
def execLdBSet4AtIYd (s : State) : Outcome := .next (setIdxReg 4 .b .iy s.fetch2)

/-- `LD C,SET 4,(IY+d)` (FD CB d E1), R497. -/
def execLdCSet4AtIYd (s : State) : Outcome := .next (setIdxReg 4 .c .iy s.fetch2)

/-- `LD D,SET 4,(IY+d)` (FD CB d E2), R497. -/
def execLdDSet4AtIYd (s : State) : Outcome := .next (setIdxReg 4 .d .iy s.fetch2)

/-- `LD E,SET 4,(IY+d)` (FD CB d E3), R497. -/
def execLdESet4AtIYd (s : State) : Outcome := .next (setIdxReg 4 .e .iy s.fetch2)

/-- `LD H,SET 4,(IY+d)` (FD CB d E4), R497. -/
def execLdHSet4AtIYd (s : State) : Outcome := .next (setIdxReg 4 .h .iy s.fetch2)

/-- `LD L,SET 4,(IY+d)` (FD CB d E5), R497. -/
def execLdLSet4AtIYd (s : State) : Outcome := .next (setIdxReg 4 .l .iy s.fetch2)

/-- `SET 4,(IY+d)` (FD CB d E6), R496. -/
def execSet4AtIYd (s : State) : Outcome := .next (setIdx 4 .iy s.fetch2)

/-- `LD A,SET 4,(IY+d)` (FD CB d E7), R497. -/
def execLdASet4AtIYd (s : State) : Outcome := .next (setIdxReg 4 .a .iy s.fetch2)

/-- `LD B,SET 5,(IY+d)` (FD CB d E8), R497. -/
def execLdBSet5AtIYd (s : State) : Outcome := .next (setIdxReg 5 .b .iy s.fetch2)

/-- `LD C,SET 5,(IY+d)` (FD CB d E9), R497. -/
def execLdCSet5AtIYd (s : State) : Outcome := .next (setIdxReg 5 .c .iy s.fetch2)

/-- `LD D,SET 5,(IY+d)` (FD CB d EA), R497. -/
def execLdDSet5AtIYd (s : State) : Outcome := .next (setIdxReg 5 .d .iy s.fetch2)

/-- `LD E,SET 5,(IY+d)` (FD CB d EB), R497. -/
def execLdESet5AtIYd (s : State) : Outcome := .next (setIdxReg 5 .e .iy s.fetch2)

/-- `LD H,SET 5,(IY+d)` (FD CB d EC), R497. -/
def execLdHSet5AtIYd (s : State) : Outcome := .next (setIdxReg 5 .h .iy s.fetch2)

/-- `LD L,SET 5,(IY+d)` (FD CB d ED), R497. -/
def execLdLSet5AtIYd (s : State) : Outcome := .next (setIdxReg 5 .l .iy s.fetch2)

/-- `SET 5,(IY+d)` (FD CB d EE), R496. -/
def execSet5AtIYd (s : State) : Outcome := .next (setIdx 5 .iy s.fetch2)

/-- `LD A,SET 5,(IY+d)` (FD CB d EF), R497. -/
def execLdASet5AtIYd (s : State) : Outcome := .next (setIdxReg 5 .a .iy s.fetch2)

/-- `LD B,SET 6,(IY+d)` (FD CB d F0), R497. -/
def execLdBSet6AtIYd (s : State) : Outcome := .next (setIdxReg 6 .b .iy s.fetch2)

/-- `LD C,SET 6,(IY+d)` (FD CB d F1), R497. -/
def execLdCSet6AtIYd (s : State) : Outcome := .next (setIdxReg 6 .c .iy s.fetch2)

/-- `LD D,SET 6,(IY+d)` (FD CB d F2), R497. -/
def execLdDSet6AtIYd (s : State) : Outcome := .next (setIdxReg 6 .d .iy s.fetch2)

/-- `LD E,SET 6,(IY+d)` (FD CB d F3), R497. -/
def execLdESet6AtIYd (s : State) : Outcome := .next (setIdxReg 6 .e .iy s.fetch2)

/-- `LD H,SET 6,(IY+d)` (FD CB d F4), R497. -/
def execLdHSet6AtIYd (s : State) : Outcome := .next (setIdxReg 6 .h .iy s.fetch2)

/-- `LD L,SET 6,(IY+d)` (FD CB d F5), R497. -/
def execLdLSet6AtIYd (s : State) : Outcome := .next (setIdxReg 6 .l .iy s.fetch2)

/-- `SET 6,(IY+d)` (FD CB d F6), R496. -/
def execSet6AtIYd (s : State) : Outcome := .next (setIdx 6 .iy s.fetch2)

/-- `LD A,SET 6,(IY+d)` (FD CB d F7), R497. -/
def execLdASet6AtIYd (s : State) : Outcome := .next (setIdxReg 6 .a .iy s.fetch2)

/-- `LD B,SET 7,(IY+d)` (FD CB d F8), R497. -/
def execLdBSet7AtIYd (s : State) : Outcome := .next (setIdxReg 7 .b .iy s.fetch2)

/-- `LD C,SET 7,(IY+d)` (FD CB d F9), R497. -/
def execLdCSet7AtIYd (s : State) : Outcome := .next (setIdxReg 7 .c .iy s.fetch2)

/-- `LD D,SET 7,(IY+d)` (FD CB d FA), R497. -/
def execLdDSet7AtIYd (s : State) : Outcome := .next (setIdxReg 7 .d .iy s.fetch2)

/-- `LD E,SET 7,(IY+d)` (FD CB d FB), R497. -/
def execLdESet7AtIYd (s : State) : Outcome := .next (setIdxReg 7 .e .iy s.fetch2)

/-- `LD H,SET 7,(IY+d)` (FD CB d FC), R497. -/
def execLdHSet7AtIYd (s : State) : Outcome := .next (setIdxReg 7 .h .iy s.fetch2)

/-- `LD L,SET 7,(IY+d)` (FD CB d FD), R497. -/
def execLdLSet7AtIYd (s : State) : Outcome := .next (setIdxReg 7 .l .iy s.fetch2)

/-- `SET 7,(IY+d)` (FD CB d FE), R496. -/
def execSet7AtIYd (s : State) : Outcome := .next (setIdx 7 .iy s.fetch2)

/-- `LD A,SET 7,(IY+d)` (FD CB d FF), R497. -/
def execLdASet7AtIYd (s : State) : Outcome := .next (setIdxReg 7 .a .iy s.fetch2)

end Sys2Proof.Machine
end

