-- ==== Sys2Proof/Machine/PortIo.lean ====
section
/-! DEFINITION. Accumulator port I/O (41_base_load_exchange.md R203, R204). -/

namespace Sys2Proof.Machine

/-! ## Shared operations -/

/-- `IN A,(n)`: the port is `{A, n}` with the old `A` (R203). -/
def inAImm (s : State) : State :=
  let port := mkWord s.regs.a s.operand
  let t := s.imm8
  ((t.portRead port).setA (t.portByte port)).setMemptr (port + 1)

/-- `OUT (n),A`: the port is `{A, n}` (R204). -/
def outImmA (s : State) : State :=
  let n := s.operand
  (s.imm8.portWrite (mkWord s.regs.a n) s.regs.a).setMemptr (memptrAfterStA s.regs.a n)

/-! ## The instructions -/

/-- `OUT (n),A` (D3), R204. -/
def execOutAtImmA (s : State) : Outcome := .next (outImmA s.fetch)

/-- `IN A,(n)` (DB), R203. -/
def execInAAtImm (s : State) : Outcome := .next (inAImm s.fetch)

end Sys2Proof.Machine
end

