-- ==== Sys2Proof/Machine/Ineffective.lean ====
section
/-! DEFINITION. An index prefix in front of an opcode it does not affect (47_ddfd.md R454): the prefix costs
its own fetch, then the base instruction runs, immediates and all. Which prefix it was leaves no trace,
so no meaning here reads it. -/

namespace Sys2Proof.Machine

/-! ## The instructions -/

/-- `NOP (prefix without effect)` (DD 00, FD 00), R454. -/
def execNopPfx (s : State) : Outcome := .next (nop s.fetch2)

/-- `LD BC,nn (prefix without effect)` (DD 01, FD 01), R454. -/
def execLdBCImm16Pfx (s : State) : Outcome := .next (ldPairImm .bc s.fetch2)

/-- `LD (BC),A (prefix without effect)` (DD 02, FD 02), R454. -/
def execLdAtBCAPfx (s : State) : Outcome := .next (stAPtr .bc s.fetch2)

/-- `INC BC (prefix without effect)` (DD 03, FD 03), R454. -/
def execIncBCPfx (s : State) : Outcome := .next (incPair .bc s.fetch2)

/-- `INC B (prefix without effect)` (DD 04, FD 04), R454. -/
def execIncBPfx (s : State) : Outcome := .next (incReg .b s.fetch2)

/-- `DEC B (prefix without effect)` (DD 05, FD 05), R454. -/
def execDecBPfx (s : State) : Outcome := .next (decReg .b s.fetch2)

/-- `LD B,n (prefix without effect)` (DD 06, FD 06), R454. -/
def execLdBImmPfx (s : State) : Outcome := .next (ldRegImm .b s.fetch2)

/-- `RLCA (prefix without effect)` (DD 07, FD 07), R454. -/
def execRlcaPfx (s : State) : Outcome := .next (rotAcc .rlc s.fetch2)

/-- `EX AF,AF' (prefix without effect)` (DD 08, FD 08), R454. -/
def execExAFAFAltPfx (s : State) : Outcome := .next (exAF s.fetch2)

/-- `LD A,(BC) (prefix without effect)` (DD 0A, FD 0A), R454. -/
def execLdAAtBCPfx (s : State) : Outcome := .next (ldAPtr .bc s.fetch2)

/-- `DEC BC (prefix without effect)` (DD 0B, FD 0B), R454. -/
def execDecBCPfx (s : State) : Outcome := .next (decPair .bc s.fetch2)

/-- `INC C (prefix without effect)` (DD 0C, FD 0C), R454. -/
def execIncCPfx (s : State) : Outcome := .next (incReg .c s.fetch2)

/-- `DEC C (prefix without effect)` (DD 0D, FD 0D), R454. -/
def execDecCPfx (s : State) : Outcome := .next (decReg .c s.fetch2)

/-- `LD C,n (prefix without effect)` (DD 0E, FD 0E), R454. -/
def execLdCImmPfx (s : State) : Outcome := .next (ldRegImm .c s.fetch2)

/-- `RRCA (prefix without effect)` (DD 0F, FD 0F), R454. -/
def execRrcaPfx (s : State) : Outcome := .next (rotAcc .rrc s.fetch2)

/-- `DJNZ e (prefix without effect)` (DD 10, FD 10), R454. -/
def execDjnzRelPfx (s : State) : Outcome := .next (djnz s.fetch2)

/-- `LD DE,nn (prefix without effect)` (DD 11, FD 11), R454. -/
def execLdDEImm16Pfx (s : State) : Outcome := .next (ldPairImm .de s.fetch2)

/-- `LD (DE),A (prefix without effect)` (DD 12, FD 12), R454. -/
def execLdAtDEAPfx (s : State) : Outcome := .next (stAPtr .de s.fetch2)

/-- `INC DE (prefix without effect)` (DD 13, FD 13), R454. -/
def execIncDEPfx (s : State) : Outcome := .next (incPair .de s.fetch2)

/-- `INC D (prefix without effect)` (DD 14, FD 14), R454. -/
def execIncDPfx (s : State) : Outcome := .next (incReg .d s.fetch2)

/-- `DEC D (prefix without effect)` (DD 15, FD 15), R454. -/
def execDecDPfx (s : State) : Outcome := .next (decReg .d s.fetch2)

/-- `LD D,n (prefix without effect)` (DD 16, FD 16), R454. -/
def execLdDImmPfx (s : State) : Outcome := .next (ldRegImm .d s.fetch2)

/-- `RLA (prefix without effect)` (DD 17, FD 17), R454. -/
def execRlaPfx (s : State) : Outcome := .next (rotAcc .rl s.fetch2)

/-- `JR e (prefix without effect)` (DD 18, FD 18), R454. -/
def execJrRelPfx (s : State) : Outcome := .next (jr s.fetch2)

/-- `LD A,(DE) (prefix without effect)` (DD 1A, FD 1A), R454. -/
def execLdAAtDEPfx (s : State) : Outcome := .next (ldAPtr .de s.fetch2)

/-- `DEC DE (prefix without effect)` (DD 1B, FD 1B), R454. -/
def execDecDEPfx (s : State) : Outcome := .next (decPair .de s.fetch2)

/-- `INC E (prefix without effect)` (DD 1C, FD 1C), R454. -/
def execIncEPfx (s : State) : Outcome := .next (incReg .e s.fetch2)

/-- `DEC E (prefix without effect)` (DD 1D, FD 1D), R454. -/
def execDecEPfx (s : State) : Outcome := .next (decReg .e s.fetch2)

/-- `LD E,n (prefix without effect)` (DD 1E, FD 1E), R454. -/
def execLdEImmPfx (s : State) : Outcome := .next (ldRegImm .e s.fetch2)

/-- `RRA (prefix without effect)` (DD 1F, FD 1F), R454. -/
def execRraPfx (s : State) : Outcome := .next (rotAcc .rr s.fetch2)

/-- `JR NZ,e (prefix without effect)` (DD 20, FD 20), R454. -/
def execJrNZRelPfx (s : State) : Outcome := .next (jrCond .nz s.fetch2)

/-- `DAA (prefix without effect)` (DD 27, FD 27), R454. -/
def execDaaPfx (s : State) : Outcome := .next (daa s.fetch2)

/-- `JR Z,e (prefix without effect)` (DD 28, FD 28), R454. -/
def execJrZRelPfx (s : State) : Outcome := .next (jrCond .z s.fetch2)

/-- `CPL (prefix without effect)` (DD 2F, FD 2F), R454. -/
def execCplPfx (s : State) : Outcome := .next (cpl s.fetch2)

/-- `JR NC,e (prefix without effect)` (DD 30, FD 30), R454. -/
def execJrNCRelPfx (s : State) : Outcome := .next (jrCond .nc s.fetch2)

/-- `LD SP,nn (prefix without effect)` (DD 31, FD 31), R454. -/
def execLdSPImm16Pfx (s : State) : Outcome := .next (ldPairImm .sp s.fetch2)

/-- `LD (nn),A (prefix without effect)` (DD 32, FD 32), R454. -/
def execLdAtAbsAPfx (s : State) : Outcome := .next (stAAbs s.fetch2)

/-- `INC SP (prefix without effect)` (DD 33, FD 33), R454. -/
def execIncSPPfx (s : State) : Outcome := .next (incPair .sp s.fetch2)

/-- `SCF (prefix without effect)` (DD 37, FD 37), R454. -/
def execScfPfx (s : State) : Outcome := .next (scf s.fetch2)

/-- `JR C,e (prefix without effect)` (DD 38, FD 38), R454. -/
def execJrCRelPfx (s : State) : Outcome := .next (jrCond .c s.fetch2)

/-- `LD A,(nn) (prefix without effect)` (DD 3A, FD 3A), R454. -/
def execLdAAtAbsPfx (s : State) : Outcome := .next (ldAAbs s.fetch2)

/-- `DEC SP (prefix without effect)` (DD 3B, FD 3B), R454. -/
def execDecSPPfx (s : State) : Outcome := .next (decPair .sp s.fetch2)

/-- `INC A (prefix without effect)` (DD 3C, FD 3C), R454. -/
def execIncAPfx (s : State) : Outcome := .next (incReg .a s.fetch2)

/-- `DEC A (prefix without effect)` (DD 3D, FD 3D), R454. -/
def execDecAPfx (s : State) : Outcome := .next (decReg .a s.fetch2)

/-- `LD A,n (prefix without effect)` (DD 3E, FD 3E), R454. -/
def execLdAImmPfx (s : State) : Outcome := .next (ldRegImm .a s.fetch2)

/-- `CCF (prefix without effect)` (DD 3F, FD 3F), R454. -/
def execCcfPfx (s : State) : Outcome := .next (ccf s.fetch2)

/-- `LD B,B (prefix without effect)` (DD 40, FD 40), R454. -/
def execLdBBPfx (s : State) : Outcome := .next (ldRegReg .b .b s.fetch2)

/-- `LD B,C (prefix without effect)` (DD 41, FD 41), R454. -/
def execLdBCPfx (s : State) : Outcome := .next (ldRegReg .b .c s.fetch2)

/-- `LD B,D (prefix without effect)` (DD 42, FD 42), R454. -/
def execLdBDPfx (s : State) : Outcome := .next (ldRegReg .b .d s.fetch2)

/-- `LD B,E (prefix without effect)` (DD 43, FD 43), R454. -/
def execLdBEPfx (s : State) : Outcome := .next (ldRegReg .b .e s.fetch2)

/-- `LD B,A (prefix without effect)` (DD 47, FD 47), R454. -/
def execLdBAPfx (s : State) : Outcome := .next (ldRegReg .b .a s.fetch2)

/-- `LD C,B (prefix without effect)` (DD 48, FD 48), R454. -/
def execLdCBPfx (s : State) : Outcome := .next (ldRegReg .c .b s.fetch2)

/-- `LD C,C (prefix without effect)` (DD 49, FD 49), R454. -/
def execLdCCPfx (s : State) : Outcome := .next (ldRegReg .c .c s.fetch2)

/-- `LD C,D (prefix without effect)` (DD 4A, FD 4A), R454. -/
def execLdCDPfx (s : State) : Outcome := .next (ldRegReg .c .d s.fetch2)

/-- `LD C,E (prefix without effect)` (DD 4B, FD 4B), R454. -/
def execLdCEPfx (s : State) : Outcome := .next (ldRegReg .c .e s.fetch2)

/-- `LD C,A (prefix without effect)` (DD 4F, FD 4F), R454. -/
def execLdCAPfx (s : State) : Outcome := .next (ldRegReg .c .a s.fetch2)

/-- `LD D,B (prefix without effect)` (DD 50, FD 50), R454. -/
def execLdDBPfx (s : State) : Outcome := .next (ldRegReg .d .b s.fetch2)

/-- `LD D,C (prefix without effect)` (DD 51, FD 51), R454. -/
def execLdDCPfx (s : State) : Outcome := .next (ldRegReg .d .c s.fetch2)

/-- `LD D,D (prefix without effect)` (DD 52, FD 52), R454. -/
def execLdDDPfx (s : State) : Outcome := .next (ldRegReg .d .d s.fetch2)

/-- `LD D,E (prefix without effect)` (DD 53, FD 53), R454. -/
def execLdDEPfx (s : State) : Outcome := .next (ldRegReg .d .e s.fetch2)

/-- `LD D,A (prefix without effect)` (DD 57, FD 57), R454. -/
def execLdDAPfx (s : State) : Outcome := .next (ldRegReg .d .a s.fetch2)

/-- `LD E,B (prefix without effect)` (DD 58, FD 58), R454. -/
def execLdEBPfx (s : State) : Outcome := .next (ldRegReg .e .b s.fetch2)

/-- `LD E,C (prefix without effect)` (DD 59, FD 59), R454. -/
def execLdECPfx (s : State) : Outcome := .next (ldRegReg .e .c s.fetch2)

/-- `LD E,D (prefix without effect)` (DD 5A, FD 5A), R454. -/
def execLdEDPfx (s : State) : Outcome := .next (ldRegReg .e .d s.fetch2)

/-- `LD E,E (prefix without effect)` (DD 5B, FD 5B), R454. -/
def execLdEEPfx (s : State) : Outcome := .next (ldRegReg .e .e s.fetch2)

/-- `LD E,A (prefix without effect)` (DD 5F, FD 5F), R454. -/
def execLdEAPfx (s : State) : Outcome := .next (ldRegReg .e .a s.fetch2)

/-- `HALT (prefix without effect)` (DD 76, FD 76), R454. -/
def execHaltPfx (s : State) : Outcome := .next (halt s.fetch2)

/-- `LD A,B (prefix without effect)` (DD 78, FD 78), R454. -/
def execLdABPfx (s : State) : Outcome := .next (ldRegReg .a .b s.fetch2)

/-- `LD A,C (prefix without effect)` (DD 79, FD 79), R454. -/
def execLdACPfx (s : State) : Outcome := .next (ldRegReg .a .c s.fetch2)

/-- `LD A,D (prefix without effect)` (DD 7A, FD 7A), R454. -/
def execLdADPfx (s : State) : Outcome := .next (ldRegReg .a .d s.fetch2)

/-- `LD A,E (prefix without effect)` (DD 7B, FD 7B), R454. -/
def execLdAEPfx (s : State) : Outcome := .next (ldRegReg .a .e s.fetch2)

/-- `LD A,A (prefix without effect)` (DD 7F, FD 7F), R454. -/
def execLdAAPfx (s : State) : Outcome := .next (ldRegReg .a .a s.fetch2)

/-- `ADD A,B (prefix without effect)` (DD 80, FD 80), R454. -/
def execAddABPfx (s : State) : Outcome := .next (aluReg .add .b s.fetch2)

/-- `ADD A,C (prefix without effect)` (DD 81, FD 81), R454. -/
def execAddACPfx (s : State) : Outcome := .next (aluReg .add .c s.fetch2)

/-- `ADD A,D (prefix without effect)` (DD 82, FD 82), R454. -/
def execAddADPfx (s : State) : Outcome := .next (aluReg .add .d s.fetch2)

/-- `ADD A,E (prefix without effect)` (DD 83, FD 83), R454. -/
def execAddAEPfx (s : State) : Outcome := .next (aluReg .add .e s.fetch2)

/-- `ADD A,A (prefix without effect)` (DD 87, FD 87), R454. -/
def execAddAAPfx (s : State) : Outcome := .next (aluReg .add .a s.fetch2)

/-- `ADC A,B (prefix without effect)` (DD 88, FD 88), R454. -/
def execAdcABPfx (s : State) : Outcome := .next (aluReg .adc .b s.fetch2)

/-- `ADC A,C (prefix without effect)` (DD 89, FD 89), R454. -/
def execAdcACPfx (s : State) : Outcome := .next (aluReg .adc .c s.fetch2)

/-- `ADC A,D (prefix without effect)` (DD 8A, FD 8A), R454. -/
def execAdcADPfx (s : State) : Outcome := .next (aluReg .adc .d s.fetch2)

/-- `ADC A,E (prefix without effect)` (DD 8B, FD 8B), R454. -/
def execAdcAEPfx (s : State) : Outcome := .next (aluReg .adc .e s.fetch2)

/-- `ADC A,A (prefix without effect)` (DD 8F, FD 8F), R454. -/
def execAdcAAPfx (s : State) : Outcome := .next (aluReg .adc .a s.fetch2)

/-- `SUB B (prefix without effect)` (DD 90, FD 90), R454. -/
def execSubBPfx (s : State) : Outcome := .next (aluReg .sub .b s.fetch2)

/-- `SUB C (prefix without effect)` (DD 91, FD 91), R454. -/
def execSubCPfx (s : State) : Outcome := .next (aluReg .sub .c s.fetch2)

/-- `SUB D (prefix without effect)` (DD 92, FD 92), R454. -/
def execSubDPfx (s : State) : Outcome := .next (aluReg .sub .d s.fetch2)

/-- `SUB E (prefix without effect)` (DD 93, FD 93), R454. -/
def execSubEPfx (s : State) : Outcome := .next (aluReg .sub .e s.fetch2)

/-- `SUB A (prefix without effect)` (DD 97, FD 97), R454. -/
def execSubAPfx (s : State) : Outcome := .next (aluReg .sub .a s.fetch2)

/-- `SBC A,B (prefix without effect)` (DD 98, FD 98), R454. -/
def execSbcABPfx (s : State) : Outcome := .next (aluReg .sbc .b s.fetch2)

/-- `SBC A,C (prefix without effect)` (DD 99, FD 99), R454. -/
def execSbcACPfx (s : State) : Outcome := .next (aluReg .sbc .c s.fetch2)

/-- `SBC A,D (prefix without effect)` (DD 9A, FD 9A), R454. -/
def execSbcADPfx (s : State) : Outcome := .next (aluReg .sbc .d s.fetch2)

/-- `SBC A,E (prefix without effect)` (DD 9B, FD 9B), R454. -/
def execSbcAEPfx (s : State) : Outcome := .next (aluReg .sbc .e s.fetch2)

/-- `SBC A,A (prefix without effect)` (DD 9F, FD 9F), R454. -/
def execSbcAAPfx (s : State) : Outcome := .next (aluReg .sbc .a s.fetch2)

/-- `AND B (prefix without effect)` (DD A0, FD A0), R454. -/
def execAndBPfx (s : State) : Outcome := .next (aluReg .and .b s.fetch2)

/-- `AND C (prefix without effect)` (DD A1, FD A1), R454. -/
def execAndCPfx (s : State) : Outcome := .next (aluReg .and .c s.fetch2)

/-- `AND D (prefix without effect)` (DD A2, FD A2), R454. -/
def execAndDPfx (s : State) : Outcome := .next (aluReg .and .d s.fetch2)

/-- `AND E (prefix without effect)` (DD A3, FD A3), R454. -/
def execAndEPfx (s : State) : Outcome := .next (aluReg .and .e s.fetch2)

/-- `AND A (prefix without effect)` (DD A7, FD A7), R454. -/
def execAndAPfx (s : State) : Outcome := .next (aluReg .and .a s.fetch2)

/-- `XOR B (prefix without effect)` (DD A8, FD A8), R454. -/
def execXorBPfx (s : State) : Outcome := .next (aluReg .xor .b s.fetch2)

/-- `XOR C (prefix without effect)` (DD A9, FD A9), R454. -/
def execXorCPfx (s : State) : Outcome := .next (aluReg .xor .c s.fetch2)

/-- `XOR D (prefix without effect)` (DD AA, FD AA), R454. -/
def execXorDPfx (s : State) : Outcome := .next (aluReg .xor .d s.fetch2)

/-- `XOR E (prefix without effect)` (DD AB, FD AB), R454. -/
def execXorEPfx (s : State) : Outcome := .next (aluReg .xor .e s.fetch2)

/-- `XOR A (prefix without effect)` (DD AF, FD AF), R454. -/
def execXorAPfx (s : State) : Outcome := .next (aluReg .xor .a s.fetch2)

/-- `OR B (prefix without effect)` (DD B0, FD B0), R454. -/
def execOrBPfx (s : State) : Outcome := .next (aluReg .or .b s.fetch2)

/-- `OR C (prefix without effect)` (DD B1, FD B1), R454. -/
def execOrCPfx (s : State) : Outcome := .next (aluReg .or .c s.fetch2)

/-- `OR D (prefix without effect)` (DD B2, FD B2), R454. -/
def execOrDPfx (s : State) : Outcome := .next (aluReg .or .d s.fetch2)

/-- `OR E (prefix without effect)` (DD B3, FD B3), R454. -/
def execOrEPfx (s : State) : Outcome := .next (aluReg .or .e s.fetch2)

/-- `OR A (prefix without effect)` (DD B7, FD B7), R454. -/
def execOrAPfx (s : State) : Outcome := .next (aluReg .or .a s.fetch2)

/-- `CP B (prefix without effect)` (DD B8, FD B8), R454. -/
def execCpBPfx (s : State) : Outcome := .next (aluReg .cp .b s.fetch2)

/-- `CP C (prefix without effect)` (DD B9, FD B9), R454. -/
def execCpCPfx (s : State) : Outcome := .next (aluReg .cp .c s.fetch2)

/-- `CP D (prefix without effect)` (DD BA, FD BA), R454. -/
def execCpDPfx (s : State) : Outcome := .next (aluReg .cp .d s.fetch2)

/-- `CP E (prefix without effect)` (DD BB, FD BB), R454. -/
def execCpEPfx (s : State) : Outcome := .next (aluReg .cp .e s.fetch2)

/-- `CP A (prefix without effect)` (DD BF, FD BF), R454. -/
def execCpAPfx (s : State) : Outcome := .next (aluReg .cp .a s.fetch2)

/-- `RET NZ (prefix without effect)` (DD C0, FD C0), R454. -/
def execRetNZPfx (s : State) : Outcome := .next (retCond .nz s.fetch2)

/-- `POP BC (prefix without effect)` (DD C1, FD C1), R454. -/
def execPopBCPfx (s : State) : Outcome := .next (popPair .bc s.fetch2)

/-- `JP NZ,nn (prefix without effect)` (DD C2, FD C2), R454. -/
def execJpNZImm16Pfx (s : State) : Outcome := .next (jpCond .nz s.fetch2)

/-- `JP nn (prefix without effect)` (DD C3, FD C3), R454. -/
def execJpImm16Pfx (s : State) : Outcome := .next (jp s.fetch2)

/-- `CALL NZ,nn (prefix without effect)` (DD C4, FD C4), R454. -/
def execCallNZImm16Pfx (s : State) : Outcome := .next (callCond .nz s.fetch2)

/-- `PUSH BC (prefix without effect)` (DD C5, FD C5), R454. -/
def execPushBCPfx (s : State) : Outcome := .next (pushPair .bc s.fetch2)

/-- `ADD A,n (prefix without effect)` (DD C6, FD C6), R454. -/
def execAddAImmPfx (s : State) : Outcome := .next (aluImm .add s.fetch2)

/-- `RST 00h (prefix without effect)` (DD C7, FD C7), R454. -/
def execRst00Pfx (s : State) : Outcome := .next (rst 0x00 s.fetch2)

/-- `RET Z (prefix without effect)` (DD C8, FD C8), R454. -/
def execRetZPfx (s : State) : Outcome := .next (retCond .z s.fetch2)

/-- `RET (prefix without effect)` (DD C9, FD C9), R454. -/
def execRetPfx (s : State) : Outcome := .next (ret s.fetch2)

/-- `JP Z,nn (prefix without effect)` (DD CA, FD CA), R454. -/
def execJpZImm16Pfx (s : State) : Outcome := .next (jpCond .z s.fetch2)

/-- `CALL Z,nn (prefix without effect)` (DD CC, FD CC), R454. -/
def execCallZImm16Pfx (s : State) : Outcome := .next (callCond .z s.fetch2)

/-- `CALL nn (prefix without effect)` (DD CD, FD CD), R454. -/
def execCallImm16Pfx (s : State) : Outcome := .next (call s.fetch2)

/-- `ADC A,n (prefix without effect)` (DD CE, FD CE), R454. -/
def execAdcAImmPfx (s : State) : Outcome := .next (aluImm .adc s.fetch2)

/-- `RST 08h (prefix without effect)` (DD CF, FD CF), R454. -/
def execRst08Pfx (s : State) : Outcome := .next (rst 0x08 s.fetch2)

/-- `RET NC (prefix without effect)` (DD D0, FD D0), R454. -/
def execRetNCPfx (s : State) : Outcome := .next (retCond .nc s.fetch2)

/-- `POP DE (prefix without effect)` (DD D1, FD D1), R454. -/
def execPopDEPfx (s : State) : Outcome := .next (popPair .de s.fetch2)

/-- `JP NC,nn (prefix without effect)` (DD D2, FD D2), R454. -/
def execJpNCImm16Pfx (s : State) : Outcome := .next (jpCond .nc s.fetch2)

/-- `OUT (n),A (prefix without effect)` (DD D3, FD D3), R454. -/
def execOutAtImmAPfx (s : State) : Outcome := .next (outImmA s.fetch2)

/-- `CALL NC,nn (prefix without effect)` (DD D4, FD D4), R454. -/
def execCallNCImm16Pfx (s : State) : Outcome := .next (callCond .nc s.fetch2)

/-- `PUSH DE (prefix without effect)` (DD D5, FD D5), R454. -/
def execPushDEPfx (s : State) : Outcome := .next (pushPair .de s.fetch2)

/-- `SUB n (prefix without effect)` (DD D6, FD D6), R454. -/
def execSubImmPfx (s : State) : Outcome := .next (aluImm .sub s.fetch2)

/-- `RST 10h (prefix without effect)` (DD D7, FD D7), R454. -/
def execRst10Pfx (s : State) : Outcome := .next (rst 0x10 s.fetch2)

/-- `RET C (prefix without effect)` (DD D8, FD D8), R454. -/
def execRetCPfx (s : State) : Outcome := .next (retCond .c s.fetch2)

/-- `EXX (prefix without effect)` (DD D9, FD D9), R454. -/
def execExxPfx (s : State) : Outcome := .next (exx s.fetch2)

/-- `JP C,nn (prefix without effect)` (DD DA, FD DA), R454. -/
def execJpCImm16Pfx (s : State) : Outcome := .next (jpCond .c s.fetch2)

/-- `IN A,(n) (prefix without effect)` (DD DB, FD DB), R454. -/
def execInAAtImmPfx (s : State) : Outcome := .next (inAImm s.fetch2)

/-- `CALL C,nn (prefix without effect)` (DD DC, FD DC), R454. -/
def execCallCImm16Pfx (s : State) : Outcome := .next (callCond .c s.fetch2)

/-- `SBC A,n (prefix without effect)` (DD DE, FD DE), R454. -/
def execSbcAImmPfx (s : State) : Outcome := .next (aluImm .sbc s.fetch2)

/-- `RST 18h (prefix without effect)` (DD DF, FD DF), R454. -/
def execRst18Pfx (s : State) : Outcome := .next (rst 0x18 s.fetch2)

/-- `RET PO (prefix without effect)` (DD E0, FD E0), R454. -/
def execRetPOPfx (s : State) : Outcome := .next (retCond .po s.fetch2)

/-- `JP PO,nn (prefix without effect)` (DD E2, FD E2), R454. -/
def execJpPOImm16Pfx (s : State) : Outcome := .next (jpCond .po s.fetch2)

/-- `CALL PO,nn (prefix without effect)` (DD E4, FD E4), R454. -/
def execCallPOImm16Pfx (s : State) : Outcome := .next (callCond .po s.fetch2)

/-- `AND n (prefix without effect)` (DD E6, FD E6), R454. -/
def execAndImmPfx (s : State) : Outcome := .next (aluImm .and s.fetch2)

/-- `RST 20h (prefix without effect)` (DD E7, FD E7), R454. -/
def execRst20Pfx (s : State) : Outcome := .next (rst 0x20 s.fetch2)

/-- `RET PE (prefix without effect)` (DD E8, FD E8), R454. -/
def execRetPEPfx (s : State) : Outcome := .next (retCond .pe s.fetch2)

/-- `JP PE,nn (prefix without effect)` (DD EA, FD EA), R454. -/
def execJpPEImm16Pfx (s : State) : Outcome := .next (jpCond .pe s.fetch2)

/-- `EX DE,HL (prefix without effect)` (DD EB, FD EB), R454. -/
def execExDEHLPfx (s : State) : Outcome := .next (exDEHL s.fetch2)

/-- `CALL PE,nn (prefix without effect)` (DD EC, FD EC), R454. -/
def execCallPEImm16Pfx (s : State) : Outcome := .next (callCond .pe s.fetch2)

/-- `XOR n (prefix without effect)` (DD EE, FD EE), R454. -/
def execXorImmPfx (s : State) : Outcome := .next (aluImm .xor s.fetch2)

/-- `RST 28h (prefix without effect)` (DD EF, FD EF), R454. -/
def execRst28Pfx (s : State) : Outcome := .next (rst 0x28 s.fetch2)

/-- `RET P (prefix without effect)` (DD F0, FD F0), R454. -/
def execRetPPfx (s : State) : Outcome := .next (retCond .p s.fetch2)

/-- `POP AF (prefix without effect)` (DD F1, FD F1), R454. -/
def execPopAFPfx (s : State) : Outcome := .next (popPair .af s.fetch2)

/-- `JP P,nn (prefix without effect)` (DD F2, FD F2), R454. -/
def execJpPImm16Pfx (s : State) : Outcome := .next (jpCond .p s.fetch2)

/-- `DI (prefix without effect)` (DD F3, FD F3), R454. -/
def execDiPfx (s : State) : Outcome := .next (di s.fetch2)

/-- `CALL P,nn (prefix without effect)` (DD F4, FD F4), R454. -/
def execCallPImm16Pfx (s : State) : Outcome := .next (callCond .p s.fetch2)

/-- `PUSH AF (prefix without effect)` (DD F5, FD F5), R454. -/
def execPushAFPfx (s : State) : Outcome := .next (pushPair .af s.fetch2)

/-- `OR n (prefix without effect)` (DD F6, FD F6), R454. -/
def execOrImmPfx (s : State) : Outcome := .next (aluImm .or s.fetch2)

/-- `RST 30h (prefix without effect)` (DD F7, FD F7), R454. -/
def execRst30Pfx (s : State) : Outcome := .next (rst 0x30 s.fetch2)

/-- `RET M (prefix without effect)` (DD F8, FD F8), R454. -/
def execRetMPfx (s : State) : Outcome := .next (retCond .m s.fetch2)

/-- `JP M,nn (prefix without effect)` (DD FA, FD FA), R454. -/
def execJpMImm16Pfx (s : State) : Outcome := .next (jpCond .m s.fetch2)

/-- `EI (prefix without effect)` (DD FB, FD FB), R454. -/
def execEiPfx (s : State) : Outcome := .next (ei s.fetch2)

/-- `CALL M,nn (prefix without effect)` (DD FC, FD FC), R454. -/
def execCallMImm16Pfx (s : State) : Outcome := .next (callCond .m s.fetch2)

/-- `CP n (prefix without effect)` (DD FE, FD FE), R454. -/
def execCpImmPfx (s : State) : Outcome := .next (aluImm .cp s.fetch2)

/-- `RST 38h (prefix without effect)` (DD FF, FD FF), R454. -/
def execRst38Pfx (s : State) : Outcome := .next (rst 0x38 s.fetch2)

end Sys2Proof.Machine
end

