-- ==== Sys2Proof/Machine/Lead.lean ====
section
/-! DEFINITION. The prefix rows of the opcode table (30_encoding.md R103, R118, R122; 47_ddfd.md R454, R455).
A prefix byte is no instruction of its own: its effect is one `Fetch()`, and the same step goes on with the
byte that follows (Machine/Cycle.lean). -/

namespace Sys2Proof.Machine

/-! ## Shared operation -/

/-- The prefix byte is spent: one `Fetch()`, which the state passed in has made (R100, R455). -/
def leadByte (s : State) : State := s

/-! ## The instructions -/

/-- `prefix DD (chain)` (DD DD, FD DD), R455. -/
def execPrefixDDChain (s : State) : Outcome := .next (leadByte s.fetch)

/-- `prefix ED (index prefix without effect)` (DD ED, FD ED), R454. -/
def execPrefixEDPfx (s : State) : Outcome := .next (leadByte s.fetch)

/-- `prefix FD (chain)` (DD FD, FD FD), R455. -/
def execPrefixFDChain (s : State) : Outcome := .next (leadByte s.fetch)

/-- `prefix CB` (CB), R103. -/
def execPrefixCB (s : State) : Outcome := .next (leadByte s.fetch)

/-- `prefix DD` (DD), R103. -/
def execPrefixDD (s : State) : Outcome := .next (leadByte s.fetch)

/-- `prefix ED` (ED), R103. -/
def execPrefixED (s : State) : Outcome := .next (leadByte s.fetch)

/-- `prefix FD` (FD), R103. -/
def execPrefixFD (s : State) : Outcome := .next (leadByte s.fetch)

end Sys2Proof.Machine
end

