-- ==== Sys2Proof/Machine/Dispatch.lean ====
section
/-! DEFINITION. The dispatch: one arm per constructor of `Instr`, each a direct call of its meaning. -/

namespace Sys2Proof.Machine

/-- What executing `i` does, its fetches included (30_encoding.md R100, R101, R103). -/
def exec (i : Instr) (s : State) : Host.Outcome State Fault Refusal :=
  match i with
  | .nopEd _ => Sys2Proof.Machine.execNopEd s
  | .neg _ => Sys2Proof.Machine.execNeg s
  | .retn _ => Sys2Proof.Machine.execRetn s
  | .im0 _ => Sys2Proof.Machine.execIm0 s
  | .im1 _ => Sys2Proof.Machine.execIm1 s
  | .im2 _ => Sys2Proof.Machine.execIm2 s
  | .nopPfx _ => Sys2Proof.Machine.execNopPfx s
  | .ldBCImm16Pfx _ => Sys2Proof.Machine.execLdBCImm16Pfx s
  | .ldAtBCAPfx _ => Sys2Proof.Machine.execLdAtBCAPfx s
  | .incBCPfx _ => Sys2Proof.Machine.execIncBCPfx s
  | .incBPfx _ => Sys2Proof.Machine.execIncBPfx s
  | .decBPfx _ => Sys2Proof.Machine.execDecBPfx s
  | .ldBImmPfx _ => Sys2Proof.Machine.execLdBImmPfx s
  | .rlcaPfx _ => Sys2Proof.Machine.execRlcaPfx s
  | .exAFAFAltPfx _ => Sys2Proof.Machine.execExAFAFAltPfx s
  | .ldAAtBCPfx _ => Sys2Proof.Machine.execLdAAtBCPfx s
  | .decBCPfx _ => Sys2Proof.Machine.execDecBCPfx s
  | .incCPfx _ => Sys2Proof.Machine.execIncCPfx s
  | .decCPfx _ => Sys2Proof.Machine.execDecCPfx s
  | .ldCImmPfx _ => Sys2Proof.Machine.execLdCImmPfx s
  | .rrcaPfx _ => Sys2Proof.Machine.execRrcaPfx s
  | .djnzRelPfx _ => Sys2Proof.Machine.execDjnzRelPfx s
  | .ldDEImm16Pfx _ => Sys2Proof.Machine.execLdDEImm16Pfx s
  | .ldAtDEAPfx _ => Sys2Proof.Machine.execLdAtDEAPfx s
  | .incDEPfx _ => Sys2Proof.Machine.execIncDEPfx s
  | .incDPfx _ => Sys2Proof.Machine.execIncDPfx s
  | .decDPfx _ => Sys2Proof.Machine.execDecDPfx s
  | .ldDImmPfx _ => Sys2Proof.Machine.execLdDImmPfx s
  | .rlaPfx _ => Sys2Proof.Machine.execRlaPfx s
  | .jrRelPfx _ => Sys2Proof.Machine.execJrRelPfx s
  | .ldAAtDEPfx _ => Sys2Proof.Machine.execLdAAtDEPfx s
  | .decDEPfx _ => Sys2Proof.Machine.execDecDEPfx s
  | .incEPfx _ => Sys2Proof.Machine.execIncEPfx s
  | .decEPfx _ => Sys2Proof.Machine.execDecEPfx s
  | .ldEImmPfx _ => Sys2Proof.Machine.execLdEImmPfx s
  | .rraPfx _ => Sys2Proof.Machine.execRraPfx s
  | .jrNZRelPfx _ => Sys2Proof.Machine.execJrNZRelPfx s
  | .daaPfx _ => Sys2Proof.Machine.execDaaPfx s
  | .jrZRelPfx _ => Sys2Proof.Machine.execJrZRelPfx s
  | .cplPfx _ => Sys2Proof.Machine.execCplPfx s
  | .jrNCRelPfx _ => Sys2Proof.Machine.execJrNCRelPfx s
  | .ldSPImm16Pfx _ => Sys2Proof.Machine.execLdSPImm16Pfx s
  | .ldAtAbsAPfx _ => Sys2Proof.Machine.execLdAtAbsAPfx s
  | .incSPPfx _ => Sys2Proof.Machine.execIncSPPfx s
  | .scfPfx _ => Sys2Proof.Machine.execScfPfx s
  | .jrCRelPfx _ => Sys2Proof.Machine.execJrCRelPfx s
  | .ldAAtAbsPfx _ => Sys2Proof.Machine.execLdAAtAbsPfx s
  | .decSPPfx _ => Sys2Proof.Machine.execDecSPPfx s
  | .incAPfx _ => Sys2Proof.Machine.execIncAPfx s
  | .decAPfx _ => Sys2Proof.Machine.execDecAPfx s
  | .ldAImmPfx _ => Sys2Proof.Machine.execLdAImmPfx s
  | .ccfPfx _ => Sys2Proof.Machine.execCcfPfx s
  | .ldBBPfx _ => Sys2Proof.Machine.execLdBBPfx s
  | .ldBCPfx _ => Sys2Proof.Machine.execLdBCPfx s
  | .ldBDPfx _ => Sys2Proof.Machine.execLdBDPfx s
  | .ldBEPfx _ => Sys2Proof.Machine.execLdBEPfx s
  | .ldBAPfx _ => Sys2Proof.Machine.execLdBAPfx s
  | .ldCBPfx _ => Sys2Proof.Machine.execLdCBPfx s
  | .ldCCPfx _ => Sys2Proof.Machine.execLdCCPfx s
  | .ldCDPfx _ => Sys2Proof.Machine.execLdCDPfx s
  | .ldCEPfx _ => Sys2Proof.Machine.execLdCEPfx s
  | .ldCAPfx _ => Sys2Proof.Machine.execLdCAPfx s
  | .ldDBPfx _ => Sys2Proof.Machine.execLdDBPfx s
  | .ldDCPfx _ => Sys2Proof.Machine.execLdDCPfx s
  | .ldDDPfx _ => Sys2Proof.Machine.execLdDDPfx s
  | .ldDEPfx _ => Sys2Proof.Machine.execLdDEPfx s
  | .ldDAPfx _ => Sys2Proof.Machine.execLdDAPfx s
  | .ldEBPfx _ => Sys2Proof.Machine.execLdEBPfx s
  | .ldECPfx _ => Sys2Proof.Machine.execLdECPfx s
  | .ldEDPfx _ => Sys2Proof.Machine.execLdEDPfx s
  | .ldEEPfx _ => Sys2Proof.Machine.execLdEEPfx s
  | .ldEAPfx _ => Sys2Proof.Machine.execLdEAPfx s
  | .haltPfx _ => Sys2Proof.Machine.execHaltPfx s
  | .ldABPfx _ => Sys2Proof.Machine.execLdABPfx s
  | .ldACPfx _ => Sys2Proof.Machine.execLdACPfx s
  | .ldADPfx _ => Sys2Proof.Machine.execLdADPfx s
  | .ldAEPfx _ => Sys2Proof.Machine.execLdAEPfx s
  | .ldAAPfx _ => Sys2Proof.Machine.execLdAAPfx s
  | .addABPfx _ => Sys2Proof.Machine.execAddABPfx s
  | .addACPfx _ => Sys2Proof.Machine.execAddACPfx s
  | .addADPfx _ => Sys2Proof.Machine.execAddADPfx s
  | .addAEPfx _ => Sys2Proof.Machine.execAddAEPfx s
  | .addAAPfx _ => Sys2Proof.Machine.execAddAAPfx s
  | .adcABPfx _ => Sys2Proof.Machine.execAdcABPfx s
  | .adcACPfx _ => Sys2Proof.Machine.execAdcACPfx s
  | .adcADPfx _ => Sys2Proof.Machine.execAdcADPfx s
  | .adcAEPfx _ => Sys2Proof.Machine.execAdcAEPfx s
  | .adcAAPfx _ => Sys2Proof.Machine.execAdcAAPfx s
  | .subBPfx _ => Sys2Proof.Machine.execSubBPfx s
  | .subCPfx _ => Sys2Proof.Machine.execSubCPfx s
  | .subDPfx _ => Sys2Proof.Machine.execSubDPfx s
  | .subEPfx _ => Sys2Proof.Machine.execSubEPfx s
  | .subAPfx _ => Sys2Proof.Machine.execSubAPfx s
  | .sbcABPfx _ => Sys2Proof.Machine.execSbcABPfx s
  | .sbcACPfx _ => Sys2Proof.Machine.execSbcACPfx s
  | .sbcADPfx _ => Sys2Proof.Machine.execSbcADPfx s
  | .sbcAEPfx _ => Sys2Proof.Machine.execSbcAEPfx s
  | .sbcAAPfx _ => Sys2Proof.Machine.execSbcAAPfx s
  | .andBPfx _ => Sys2Proof.Machine.execAndBPfx s
  | .andCPfx _ => Sys2Proof.Machine.execAndCPfx s
  | .andDPfx _ => Sys2Proof.Machine.execAndDPfx s
  | .andEPfx _ => Sys2Proof.Machine.execAndEPfx s
  | .andAPfx _ => Sys2Proof.Machine.execAndAPfx s
  | .xorBPfx _ => Sys2Proof.Machine.execXorBPfx s
  | .xorCPfx _ => Sys2Proof.Machine.execXorCPfx s
  | .xorDPfx _ => Sys2Proof.Machine.execXorDPfx s
  | .xorEPfx _ => Sys2Proof.Machine.execXorEPfx s
  | .xorAPfx _ => Sys2Proof.Machine.execXorAPfx s
  | .orBPfx _ => Sys2Proof.Machine.execOrBPfx s
  | .orCPfx _ => Sys2Proof.Machine.execOrCPfx s
  | .orDPfx _ => Sys2Proof.Machine.execOrDPfx s
  | .orEPfx _ => Sys2Proof.Machine.execOrEPfx s
  | .orAPfx _ => Sys2Proof.Machine.execOrAPfx s
  | .cpBPfx _ => Sys2Proof.Machine.execCpBPfx s
  | .cpCPfx _ => Sys2Proof.Machine.execCpCPfx s
  | .cpDPfx _ => Sys2Proof.Machine.execCpDPfx s
  | .cpEPfx _ => Sys2Proof.Machine.execCpEPfx s
  | .cpAPfx _ => Sys2Proof.Machine.execCpAPfx s
  | .retNZPfx _ => Sys2Proof.Machine.execRetNZPfx s
  | .popBCPfx _ => Sys2Proof.Machine.execPopBCPfx s
  | .jpNZImm16Pfx _ => Sys2Proof.Machine.execJpNZImm16Pfx s
  | .jpImm16Pfx _ => Sys2Proof.Machine.execJpImm16Pfx s
  | .callNZImm16Pfx _ => Sys2Proof.Machine.execCallNZImm16Pfx s
  | .pushBCPfx _ => Sys2Proof.Machine.execPushBCPfx s
  | .addAImmPfx _ => Sys2Proof.Machine.execAddAImmPfx s
  | .rst00Pfx _ => Sys2Proof.Machine.execRst00Pfx s
  | .retZPfx _ => Sys2Proof.Machine.execRetZPfx s
  | .retPfx _ => Sys2Proof.Machine.execRetPfx s
  | .jpZImm16Pfx _ => Sys2Proof.Machine.execJpZImm16Pfx s
  | .callZImm16Pfx _ => Sys2Proof.Machine.execCallZImm16Pfx s
  | .callImm16Pfx _ => Sys2Proof.Machine.execCallImm16Pfx s
  | .adcAImmPfx _ => Sys2Proof.Machine.execAdcAImmPfx s
  | .rst08Pfx _ => Sys2Proof.Machine.execRst08Pfx s
  | .retNCPfx _ => Sys2Proof.Machine.execRetNCPfx s
  | .popDEPfx _ => Sys2Proof.Machine.execPopDEPfx s
  | .jpNCImm16Pfx _ => Sys2Proof.Machine.execJpNCImm16Pfx s
  | .outAtImmAPfx _ => Sys2Proof.Machine.execOutAtImmAPfx s
  | .callNCImm16Pfx _ => Sys2Proof.Machine.execCallNCImm16Pfx s
  | .pushDEPfx _ => Sys2Proof.Machine.execPushDEPfx s
  | .subImmPfx _ => Sys2Proof.Machine.execSubImmPfx s
  | .rst10Pfx _ => Sys2Proof.Machine.execRst10Pfx s
  | .retCPfx _ => Sys2Proof.Machine.execRetCPfx s
  | .exxPfx _ => Sys2Proof.Machine.execExxPfx s
  | .jpCImm16Pfx _ => Sys2Proof.Machine.execJpCImm16Pfx s
  | .inAAtImmPfx _ => Sys2Proof.Machine.execInAAtImmPfx s
  | .callCImm16Pfx _ => Sys2Proof.Machine.execCallCImm16Pfx s
  | .prefixDDChain _ => Sys2Proof.Machine.execPrefixDDChain s
  | .sbcAImmPfx _ => Sys2Proof.Machine.execSbcAImmPfx s
  | .rst18Pfx _ => Sys2Proof.Machine.execRst18Pfx s
  | .retPOPfx _ => Sys2Proof.Machine.execRetPOPfx s
  | .jpPOImm16Pfx _ => Sys2Proof.Machine.execJpPOImm16Pfx s
  | .callPOImm16Pfx _ => Sys2Proof.Machine.execCallPOImm16Pfx s
  | .andImmPfx _ => Sys2Proof.Machine.execAndImmPfx s
  | .rst20Pfx _ => Sys2Proof.Machine.execRst20Pfx s
  | .retPEPfx _ => Sys2Proof.Machine.execRetPEPfx s
  | .jpPEImm16Pfx _ => Sys2Proof.Machine.execJpPEImm16Pfx s
  | .exDEHLPfx _ => Sys2Proof.Machine.execExDEHLPfx s
  | .callPEImm16Pfx _ => Sys2Proof.Machine.execCallPEImm16Pfx s
  | .prefixEDPfx _ => Sys2Proof.Machine.execPrefixEDPfx s
  | .xorImmPfx _ => Sys2Proof.Machine.execXorImmPfx s
  | .rst28Pfx _ => Sys2Proof.Machine.execRst28Pfx s
  | .retPPfx _ => Sys2Proof.Machine.execRetPPfx s
  | .popAFPfx _ => Sys2Proof.Machine.execPopAFPfx s
  | .jpPImm16Pfx _ => Sys2Proof.Machine.execJpPImm16Pfx s
  | .diPfx _ => Sys2Proof.Machine.execDiPfx s
  | .callPImm16Pfx _ => Sys2Proof.Machine.execCallPImm16Pfx s
  | .pushAFPfx _ => Sys2Proof.Machine.execPushAFPfx s
  | .orImmPfx _ => Sys2Proof.Machine.execOrImmPfx s
  | .rst30Pfx _ => Sys2Proof.Machine.execRst30Pfx s
  | .retMPfx _ => Sys2Proof.Machine.execRetMPfx s
  | .jpMImm16Pfx _ => Sys2Proof.Machine.execJpMImm16Pfx s
  | .eiPfx _ => Sys2Proof.Machine.execEiPfx s
  | .callMImm16Pfx _ => Sys2Proof.Machine.execCallMImm16Pfx s
  | .prefixFDChain _ => Sys2Proof.Machine.execPrefixFDChain s
  | .cpImmPfx _ => Sys2Proof.Machine.execCpImmPfx s
  | .rst38Pfx _ => Sys2Proof.Machine.execRst38Pfx s
  | .bit0AtIXd _ => Sys2Proof.Machine.execBit0AtIXd s
  | .bit1AtIXd _ => Sys2Proof.Machine.execBit1AtIXd s
  | .bit2AtIXd _ => Sys2Proof.Machine.execBit2AtIXd s
  | .bit3AtIXd _ => Sys2Proof.Machine.execBit3AtIXd s
  | .bit4AtIXd _ => Sys2Proof.Machine.execBit4AtIXd s
  | .bit5AtIXd _ => Sys2Proof.Machine.execBit5AtIXd s
  | .bit6AtIXd _ => Sys2Proof.Machine.execBit6AtIXd s
  | .bit7AtIXd _ => Sys2Proof.Machine.execBit7AtIXd s
  | .bit0AtIYd _ => Sys2Proof.Machine.execBit0AtIYd s
  | .bit1AtIYd _ => Sys2Proof.Machine.execBit1AtIYd s
  | .bit2AtIYd _ => Sys2Proof.Machine.execBit2AtIYd s
  | .bit3AtIYd _ => Sys2Proof.Machine.execBit3AtIYd s
  | .bit4AtIYd _ => Sys2Proof.Machine.execBit4AtIYd s
  | .bit5AtIYd _ => Sys2Proof.Machine.execBit5AtIYd s
  | .bit6AtIYd _ => Sys2Proof.Machine.execBit6AtIYd s
  | .bit7AtIYd _ => Sys2Proof.Machine.execBit7AtIYd s
  | .nop => Sys2Proof.Machine.execNop s
  | .ldBCImm16 => Sys2Proof.Machine.execLdBCImm16 s
  | .ldAtBCA => Sys2Proof.Machine.execLdAtBCA s
  | .incBC => Sys2Proof.Machine.execIncBC s
  | .incB => Sys2Proof.Machine.execIncB s
  | .decB => Sys2Proof.Machine.execDecB s
  | .ldBImm => Sys2Proof.Machine.execLdBImm s
  | .rlca => Sys2Proof.Machine.execRlca s
  | .exAFAFAlt => Sys2Proof.Machine.execExAFAFAlt s
  | .addHLBC => Sys2Proof.Machine.execAddHLBC s
  | .ldAAtBC => Sys2Proof.Machine.execLdAAtBC s
  | .decBC => Sys2Proof.Machine.execDecBC s
  | .incC => Sys2Proof.Machine.execIncC s
  | .decC => Sys2Proof.Machine.execDecC s
  | .ldCImm => Sys2Proof.Machine.execLdCImm s
  | .rrca => Sys2Proof.Machine.execRrca s
  | .djnzRel => Sys2Proof.Machine.execDjnzRel s
  | .ldDEImm16 => Sys2Proof.Machine.execLdDEImm16 s
  | .ldAtDEA => Sys2Proof.Machine.execLdAtDEA s
  | .incDE => Sys2Proof.Machine.execIncDE s
  | .incD => Sys2Proof.Machine.execIncD s
  | .decD => Sys2Proof.Machine.execDecD s
  | .ldDImm => Sys2Proof.Machine.execLdDImm s
  | .rla => Sys2Proof.Machine.execRla s
  | .jrRel => Sys2Proof.Machine.execJrRel s
  | .addHLDE => Sys2Proof.Machine.execAddHLDE s
  | .ldAAtDE => Sys2Proof.Machine.execLdAAtDE s
  | .decDE => Sys2Proof.Machine.execDecDE s
  | .incE => Sys2Proof.Machine.execIncE s
  | .decE => Sys2Proof.Machine.execDecE s
  | .ldEImm => Sys2Proof.Machine.execLdEImm s
  | .rra => Sys2Proof.Machine.execRra s
  | .jrNZRel => Sys2Proof.Machine.execJrNZRel s
  | .ldHLImm16 => Sys2Proof.Machine.execLdHLImm16 s
  | .ldAtAbsHL => Sys2Proof.Machine.execLdAtAbsHL s
  | .incHL => Sys2Proof.Machine.execIncHL s
  | .incH => Sys2Proof.Machine.execIncH s
  | .decH => Sys2Proof.Machine.execDecH s
  | .ldHImm => Sys2Proof.Machine.execLdHImm s
  | .daa => Sys2Proof.Machine.execDaa s
  | .jrZRel => Sys2Proof.Machine.execJrZRel s
  | .addHLHL => Sys2Proof.Machine.execAddHLHL s
  | .ldHLAtAbs => Sys2Proof.Machine.execLdHLAtAbs s
  | .decHL => Sys2Proof.Machine.execDecHL s
  | .incL => Sys2Proof.Machine.execIncL s
  | .decL => Sys2Proof.Machine.execDecL s
  | .ldLImm => Sys2Proof.Machine.execLdLImm s
  | .cpl => Sys2Proof.Machine.execCpl s
  | .jrNCRel => Sys2Proof.Machine.execJrNCRel s
  | .ldSPImm16 => Sys2Proof.Machine.execLdSPImm16 s
  | .ldAtAbsA => Sys2Proof.Machine.execLdAtAbsA s
  | .incSP => Sys2Proof.Machine.execIncSP s
  | .incAtHL => Sys2Proof.Machine.execIncAtHL s
  | .decAtHL => Sys2Proof.Machine.execDecAtHL s
  | .ldAtHLImm => Sys2Proof.Machine.execLdAtHLImm s
  | .scf => Sys2Proof.Machine.execScf s
  | .jrCRel => Sys2Proof.Machine.execJrCRel s
  | .addHLSP => Sys2Proof.Machine.execAddHLSP s
  | .ldAAtAbs => Sys2Proof.Machine.execLdAAtAbs s
  | .decSP => Sys2Proof.Machine.execDecSP s
  | .incA => Sys2Proof.Machine.execIncA s
  | .decA => Sys2Proof.Machine.execDecA s
  | .ldAImm => Sys2Proof.Machine.execLdAImm s
  | .ccf => Sys2Proof.Machine.execCcf s
  | .ldBB => Sys2Proof.Machine.execLdBB s
  | .ldBC => Sys2Proof.Machine.execLdBC s
  | .ldBD => Sys2Proof.Machine.execLdBD s
  | .ldBE => Sys2Proof.Machine.execLdBE s
  | .ldBH => Sys2Proof.Machine.execLdBH s
  | .ldBL => Sys2Proof.Machine.execLdBL s
  | .ldBAtHL => Sys2Proof.Machine.execLdBAtHL s
  | .ldBA => Sys2Proof.Machine.execLdBA s
  | .ldCB => Sys2Proof.Machine.execLdCB s
  | .ldCC => Sys2Proof.Machine.execLdCC s
  | .ldCD => Sys2Proof.Machine.execLdCD s
  | .ldCE => Sys2Proof.Machine.execLdCE s
  | .ldCH => Sys2Proof.Machine.execLdCH s
  | .ldCL => Sys2Proof.Machine.execLdCL s
  | .ldCAtHL => Sys2Proof.Machine.execLdCAtHL s
  | .ldCA => Sys2Proof.Machine.execLdCA s
  | .ldDB => Sys2Proof.Machine.execLdDB s
  | .ldDC => Sys2Proof.Machine.execLdDC s
  | .ldDD => Sys2Proof.Machine.execLdDD s
  | .ldDE => Sys2Proof.Machine.execLdDE s
  | .ldDH => Sys2Proof.Machine.execLdDH s
  | .ldDL => Sys2Proof.Machine.execLdDL s
  | .ldDAtHL => Sys2Proof.Machine.execLdDAtHL s
  | .ldDA => Sys2Proof.Machine.execLdDA s
  | .ldEB => Sys2Proof.Machine.execLdEB s
  | .ldEC => Sys2Proof.Machine.execLdEC s
  | .ldED => Sys2Proof.Machine.execLdED s
  | .ldEE => Sys2Proof.Machine.execLdEE s
  | .ldEH => Sys2Proof.Machine.execLdEH s
  | .ldEL => Sys2Proof.Machine.execLdEL s
  | .ldEAtHL => Sys2Proof.Machine.execLdEAtHL s
  | .ldEA => Sys2Proof.Machine.execLdEA s
  | .ldHB => Sys2Proof.Machine.execLdHB s
  | .ldHC => Sys2Proof.Machine.execLdHC s
  | .ldHD => Sys2Proof.Machine.execLdHD s
  | .ldHE => Sys2Proof.Machine.execLdHE s
  | .ldHH => Sys2Proof.Machine.execLdHH s
  | .ldHL => Sys2Proof.Machine.execLdHL s
  | .ldHAtHL => Sys2Proof.Machine.execLdHAtHL s
  | .ldHA => Sys2Proof.Machine.execLdHA s
  | .ldLB => Sys2Proof.Machine.execLdLB s
  | .ldLC => Sys2Proof.Machine.execLdLC s
  | .ldLD => Sys2Proof.Machine.execLdLD s
  | .ldLE => Sys2Proof.Machine.execLdLE s
  | .ldLH => Sys2Proof.Machine.execLdLH s
  | .ldLL => Sys2Proof.Machine.execLdLL s
  | .ldLAtHL => Sys2Proof.Machine.execLdLAtHL s
  | .ldLA => Sys2Proof.Machine.execLdLA s
  | .ldAtHLB => Sys2Proof.Machine.execLdAtHLB s
  | .ldAtHLC => Sys2Proof.Machine.execLdAtHLC s
  | .ldAtHLD => Sys2Proof.Machine.execLdAtHLD s
  | .ldAtHLE => Sys2Proof.Machine.execLdAtHLE s
  | .ldAtHLH => Sys2Proof.Machine.execLdAtHLH s
  | .ldAtHLL => Sys2Proof.Machine.execLdAtHLL s
  | .halt => Sys2Proof.Machine.execHalt s
  | .ldAtHLA => Sys2Proof.Machine.execLdAtHLA s
  | .ldAB => Sys2Proof.Machine.execLdAB s
  | .ldAC => Sys2Proof.Machine.execLdAC s
  | .ldAD => Sys2Proof.Machine.execLdAD s
  | .ldAE => Sys2Proof.Machine.execLdAE s
  | .ldAH => Sys2Proof.Machine.execLdAH s
  | .ldAL => Sys2Proof.Machine.execLdAL s
  | .ldAAtHL => Sys2Proof.Machine.execLdAAtHL s
  | .ldAA => Sys2Proof.Machine.execLdAA s
  | .addAB => Sys2Proof.Machine.execAddAB s
  | .addAC => Sys2Proof.Machine.execAddAC s
  | .addAD => Sys2Proof.Machine.execAddAD s
  | .addAE => Sys2Proof.Machine.execAddAE s
  | .addAH => Sys2Proof.Machine.execAddAH s
  | .addAL => Sys2Proof.Machine.execAddAL s
  | .addAAtHL => Sys2Proof.Machine.execAddAAtHL s
  | .addAA => Sys2Proof.Machine.execAddAA s
  | .adcAB => Sys2Proof.Machine.execAdcAB s
  | .adcAC => Sys2Proof.Machine.execAdcAC s
  | .adcAD => Sys2Proof.Machine.execAdcAD s
  | .adcAE => Sys2Proof.Machine.execAdcAE s
  | .adcAH => Sys2Proof.Machine.execAdcAH s
  | .adcAL => Sys2Proof.Machine.execAdcAL s
  | .adcAAtHL => Sys2Proof.Machine.execAdcAAtHL s
  | .adcAA => Sys2Proof.Machine.execAdcAA s
  | .subB => Sys2Proof.Machine.execSubB s
  | .subC => Sys2Proof.Machine.execSubC s
  | .subD => Sys2Proof.Machine.execSubD s
  | .subE => Sys2Proof.Machine.execSubE s
  | .subH => Sys2Proof.Machine.execSubH s
  | .subL => Sys2Proof.Machine.execSubL s
  | .subAtHL => Sys2Proof.Machine.execSubAtHL s
  | .subA => Sys2Proof.Machine.execSubA s
  | .sbcAB => Sys2Proof.Machine.execSbcAB s
  | .sbcAC => Sys2Proof.Machine.execSbcAC s
  | .sbcAD => Sys2Proof.Machine.execSbcAD s
  | .sbcAE => Sys2Proof.Machine.execSbcAE s
  | .sbcAH => Sys2Proof.Machine.execSbcAH s
  | .sbcAL => Sys2Proof.Machine.execSbcAL s
  | .sbcAAtHL => Sys2Proof.Machine.execSbcAAtHL s
  | .sbcAA => Sys2Proof.Machine.execSbcAA s
  | .andB => Sys2Proof.Machine.execAndB s
  | .andC => Sys2Proof.Machine.execAndC s
  | .andD => Sys2Proof.Machine.execAndD s
  | .andE => Sys2Proof.Machine.execAndE s
  | .andH => Sys2Proof.Machine.execAndH s
  | .andL => Sys2Proof.Machine.execAndL s
  | .andAtHL => Sys2Proof.Machine.execAndAtHL s
  | .andA => Sys2Proof.Machine.execAndA s
  | .xorB => Sys2Proof.Machine.execXorB s
  | .xorC => Sys2Proof.Machine.execXorC s
  | .xorD => Sys2Proof.Machine.execXorD s
  | .xorE => Sys2Proof.Machine.execXorE s
  | .xorH => Sys2Proof.Machine.execXorH s
  | .xorL => Sys2Proof.Machine.execXorL s
  | .xorAtHL => Sys2Proof.Machine.execXorAtHL s
  | .xorA => Sys2Proof.Machine.execXorA s
  | .orB => Sys2Proof.Machine.execOrB s
  | .orC => Sys2Proof.Machine.execOrC s
  | .orD => Sys2Proof.Machine.execOrD s
  | .orE => Sys2Proof.Machine.execOrE s
  | .orH => Sys2Proof.Machine.execOrH s
  | .orL => Sys2Proof.Machine.execOrL s
  | .orAtHL => Sys2Proof.Machine.execOrAtHL s
  | .orA => Sys2Proof.Machine.execOrA s
  | .cpB => Sys2Proof.Machine.execCpB s
  | .cpC => Sys2Proof.Machine.execCpC s
  | .cpD => Sys2Proof.Machine.execCpD s
  | .cpE => Sys2Proof.Machine.execCpE s
  | .cpH => Sys2Proof.Machine.execCpH s
  | .cpL => Sys2Proof.Machine.execCpL s
  | .cpAtHL => Sys2Proof.Machine.execCpAtHL s
  | .cpA => Sys2Proof.Machine.execCpA s
  | .retNZ => Sys2Proof.Machine.execRetNZ s
  | .popBC => Sys2Proof.Machine.execPopBC s
  | .jpNZImm16 => Sys2Proof.Machine.execJpNZImm16 s
  | .jpImm16 => Sys2Proof.Machine.execJpImm16 s
  | .callNZImm16 => Sys2Proof.Machine.execCallNZImm16 s
  | .pushBC => Sys2Proof.Machine.execPushBC s
  | .addAImm => Sys2Proof.Machine.execAddAImm s
  | .rst00 => Sys2Proof.Machine.execRst00 s
  | .retZ => Sys2Proof.Machine.execRetZ s
  | .ret => Sys2Proof.Machine.execRet s
  | .jpZImm16 => Sys2Proof.Machine.execJpZImm16 s
  | .prefixCB => Sys2Proof.Machine.execPrefixCB s
  | .callZImm16 => Sys2Proof.Machine.execCallZImm16 s
  | .callImm16 => Sys2Proof.Machine.execCallImm16 s
  | .adcAImm => Sys2Proof.Machine.execAdcAImm s
  | .rst08 => Sys2Proof.Machine.execRst08 s
  | .retNC => Sys2Proof.Machine.execRetNC s
  | .popDE => Sys2Proof.Machine.execPopDE s
  | .jpNCImm16 => Sys2Proof.Machine.execJpNCImm16 s
  | .outAtImmA => Sys2Proof.Machine.execOutAtImmA s
  | .callNCImm16 => Sys2Proof.Machine.execCallNCImm16 s
  | .pushDE => Sys2Proof.Machine.execPushDE s
  | .subImm => Sys2Proof.Machine.execSubImm s
  | .rst10 => Sys2Proof.Machine.execRst10 s
  | .retC => Sys2Proof.Machine.execRetC s
  | .exx => Sys2Proof.Machine.execExx s
  | .jpCImm16 => Sys2Proof.Machine.execJpCImm16 s
  | .inAAtImm => Sys2Proof.Machine.execInAAtImm s
  | .callCImm16 => Sys2Proof.Machine.execCallCImm16 s
  | .prefixDD => Sys2Proof.Machine.execPrefixDD s
  | .sbcAImm => Sys2Proof.Machine.execSbcAImm s
  | .rst18 => Sys2Proof.Machine.execRst18 s
  | .retPO => Sys2Proof.Machine.execRetPO s
  | .popHL => Sys2Proof.Machine.execPopHL s
  | .jpPOImm16 => Sys2Proof.Machine.execJpPOImm16 s
  | .exAtSPHL => Sys2Proof.Machine.execExAtSPHL s
  | .callPOImm16 => Sys2Proof.Machine.execCallPOImm16 s
  | .pushHL => Sys2Proof.Machine.execPushHL s
  | .andImm => Sys2Proof.Machine.execAndImm s
  | .rst20 => Sys2Proof.Machine.execRst20 s
  | .retPE => Sys2Proof.Machine.execRetPE s
  | .jpAtHL => Sys2Proof.Machine.execJpAtHL s
  | .jpPEImm16 => Sys2Proof.Machine.execJpPEImm16 s
  | .exDEHL => Sys2Proof.Machine.execExDEHL s
  | .callPEImm16 => Sys2Proof.Machine.execCallPEImm16 s
  | .prefixED => Sys2Proof.Machine.execPrefixED s
  | .xorImm => Sys2Proof.Machine.execXorImm s
  | .rst28 => Sys2Proof.Machine.execRst28 s
  | .retP => Sys2Proof.Machine.execRetP s
  | .popAF => Sys2Proof.Machine.execPopAF s
  | .jpPImm16 => Sys2Proof.Machine.execJpPImm16 s
  | .di => Sys2Proof.Machine.execDi s
  | .callPImm16 => Sys2Proof.Machine.execCallPImm16 s
  | .pushAF => Sys2Proof.Machine.execPushAF s
  | .orImm => Sys2Proof.Machine.execOrImm s
  | .rst30 => Sys2Proof.Machine.execRst30 s
  | .retM => Sys2Proof.Machine.execRetM s
  | .ldSPHL => Sys2Proof.Machine.execLdSPHL s
  | .jpMImm16 => Sys2Proof.Machine.execJpMImm16 s
  | .ei => Sys2Proof.Machine.execEi s
  | .callMImm16 => Sys2Proof.Machine.execCallMImm16 s
  | .prefixFD => Sys2Proof.Machine.execPrefixFD s
  | .cpImm => Sys2Proof.Machine.execCpImm s
  | .rst38 => Sys2Proof.Machine.execRst38 s
  | .rlcB => Sys2Proof.Machine.execRlcB s
  | .rlcC => Sys2Proof.Machine.execRlcC s
  | .rlcD => Sys2Proof.Machine.execRlcD s
  | .rlcE => Sys2Proof.Machine.execRlcE s
  | .rlcH => Sys2Proof.Machine.execRlcH s
  | .rlcL => Sys2Proof.Machine.execRlcL s
  | .rlcAtHL => Sys2Proof.Machine.execRlcAtHL s
  | .rlcA => Sys2Proof.Machine.execRlcA s
  | .rrcB => Sys2Proof.Machine.execRrcB s
  | .rrcC => Sys2Proof.Machine.execRrcC s
  | .rrcD => Sys2Proof.Machine.execRrcD s
  | .rrcE => Sys2Proof.Machine.execRrcE s
  | .rrcH => Sys2Proof.Machine.execRrcH s
  | .rrcL => Sys2Proof.Machine.execRrcL s
  | .rrcAtHL => Sys2Proof.Machine.execRrcAtHL s
  | .rrcA => Sys2Proof.Machine.execRrcA s
  | .rlB => Sys2Proof.Machine.execRlB s
  | .rlC => Sys2Proof.Machine.execRlC s
  | .rlD => Sys2Proof.Machine.execRlD s
  | .rlE => Sys2Proof.Machine.execRlE s
  | .rlH => Sys2Proof.Machine.execRlH s
  | .rlL => Sys2Proof.Machine.execRlL s
  | .rlAtHL => Sys2Proof.Machine.execRlAtHL s
  | .rlA => Sys2Proof.Machine.execRlA s
  | .rrB => Sys2Proof.Machine.execRrB s
  | .rrC => Sys2Proof.Machine.execRrC s
  | .rrD => Sys2Proof.Machine.execRrD s
  | .rrE => Sys2Proof.Machine.execRrE s
  | .rrH => Sys2Proof.Machine.execRrH s
  | .rrL => Sys2Proof.Machine.execRrL s
  | .rrAtHL => Sys2Proof.Machine.execRrAtHL s
  | .rrA => Sys2Proof.Machine.execRrA s
  | .slaB => Sys2Proof.Machine.execSlaB s
  | .slaC => Sys2Proof.Machine.execSlaC s
  | .slaD => Sys2Proof.Machine.execSlaD s
  | .slaE => Sys2Proof.Machine.execSlaE s
  | .slaH => Sys2Proof.Machine.execSlaH s
  | .slaL => Sys2Proof.Machine.execSlaL s
  | .slaAtHL => Sys2Proof.Machine.execSlaAtHL s
  | .slaA => Sys2Proof.Machine.execSlaA s
  | .sraB => Sys2Proof.Machine.execSraB s
  | .sraC => Sys2Proof.Machine.execSraC s
  | .sraD => Sys2Proof.Machine.execSraD s
  | .sraE => Sys2Proof.Machine.execSraE s
  | .sraH => Sys2Proof.Machine.execSraH s
  | .sraL => Sys2Proof.Machine.execSraL s
  | .sraAtHL => Sys2Proof.Machine.execSraAtHL s
  | .sraA => Sys2Proof.Machine.execSraA s
  | .sllB => Sys2Proof.Machine.execSllB s
  | .sllC => Sys2Proof.Machine.execSllC s
  | .sllD => Sys2Proof.Machine.execSllD s
  | .sllE => Sys2Proof.Machine.execSllE s
  | .sllH => Sys2Proof.Machine.execSllH s
  | .sllL => Sys2Proof.Machine.execSllL s
  | .sllAtHL => Sys2Proof.Machine.execSllAtHL s
  | .sllA => Sys2Proof.Machine.execSllA s
  | .srlB => Sys2Proof.Machine.execSrlB s
  | .srlC => Sys2Proof.Machine.execSrlC s
  | .srlD => Sys2Proof.Machine.execSrlD s
  | .srlE => Sys2Proof.Machine.execSrlE s
  | .srlH => Sys2Proof.Machine.execSrlH s
  | .srlL => Sys2Proof.Machine.execSrlL s
  | .srlAtHL => Sys2Proof.Machine.execSrlAtHL s
  | .srlA => Sys2Proof.Machine.execSrlA s
  | .bit0B => Sys2Proof.Machine.execBit0B s
  | .bit0C => Sys2Proof.Machine.execBit0C s
  | .bit0D => Sys2Proof.Machine.execBit0D s
  | .bit0E => Sys2Proof.Machine.execBit0E s
  | .bit0H => Sys2Proof.Machine.execBit0H s
  | .bit0L => Sys2Proof.Machine.execBit0L s
  | .bit0AtHL => Sys2Proof.Machine.execBit0AtHL s
  | .bit0A => Sys2Proof.Machine.execBit0A s
  | .bit1B => Sys2Proof.Machine.execBit1B s
  | .bit1C => Sys2Proof.Machine.execBit1C s
  | .bit1D => Sys2Proof.Machine.execBit1D s
  | .bit1E => Sys2Proof.Machine.execBit1E s
  | .bit1H => Sys2Proof.Machine.execBit1H s
  | .bit1L => Sys2Proof.Machine.execBit1L s
  | .bit1AtHL => Sys2Proof.Machine.execBit1AtHL s
  | .bit1A => Sys2Proof.Machine.execBit1A s
  | .bit2B => Sys2Proof.Machine.execBit2B s
  | .bit2C => Sys2Proof.Machine.execBit2C s
  | .bit2D => Sys2Proof.Machine.execBit2D s
  | .bit2E => Sys2Proof.Machine.execBit2E s
  | .bit2H => Sys2Proof.Machine.execBit2H s
  | .bit2L => Sys2Proof.Machine.execBit2L s
  | .bit2AtHL => Sys2Proof.Machine.execBit2AtHL s
  | .bit2A => Sys2Proof.Machine.execBit2A s
  | .bit3B => Sys2Proof.Machine.execBit3B s
  | .bit3C => Sys2Proof.Machine.execBit3C s
  | .bit3D => Sys2Proof.Machine.execBit3D s
  | .bit3E => Sys2Proof.Machine.execBit3E s
  | .bit3H => Sys2Proof.Machine.execBit3H s
  | .bit3L => Sys2Proof.Machine.execBit3L s
  | .bit3AtHL => Sys2Proof.Machine.execBit3AtHL s
  | .bit3A => Sys2Proof.Machine.execBit3A s
  | .bit4B => Sys2Proof.Machine.execBit4B s
  | .bit4C => Sys2Proof.Machine.execBit4C s
  | .bit4D => Sys2Proof.Machine.execBit4D s
  | .bit4E => Sys2Proof.Machine.execBit4E s
  | .bit4H => Sys2Proof.Machine.execBit4H s
  | .bit4L => Sys2Proof.Machine.execBit4L s
  | .bit4AtHL => Sys2Proof.Machine.execBit4AtHL s
  | .bit4A => Sys2Proof.Machine.execBit4A s
  | .bit5B => Sys2Proof.Machine.execBit5B s
  | .bit5C => Sys2Proof.Machine.execBit5C s
  | .bit5D => Sys2Proof.Machine.execBit5D s
  | .bit5E => Sys2Proof.Machine.execBit5E s
  | .bit5H => Sys2Proof.Machine.execBit5H s
  | .bit5L => Sys2Proof.Machine.execBit5L s
  | .bit5AtHL => Sys2Proof.Machine.execBit5AtHL s
  | .bit5A => Sys2Proof.Machine.execBit5A s
  | .bit6B => Sys2Proof.Machine.execBit6B s
  | .bit6C => Sys2Proof.Machine.execBit6C s
  | .bit6D => Sys2Proof.Machine.execBit6D s
  | .bit6E => Sys2Proof.Machine.execBit6E s
  | .bit6H => Sys2Proof.Machine.execBit6H s
  | .bit6L => Sys2Proof.Machine.execBit6L s
  | .bit6AtHL => Sys2Proof.Machine.execBit6AtHL s
  | .bit6A => Sys2Proof.Machine.execBit6A s
  | .bit7B => Sys2Proof.Machine.execBit7B s
  | .bit7C => Sys2Proof.Machine.execBit7C s
  | .bit7D => Sys2Proof.Machine.execBit7D s
  | .bit7E => Sys2Proof.Machine.execBit7E s
  | .bit7H => Sys2Proof.Machine.execBit7H s
  | .bit7L => Sys2Proof.Machine.execBit7L s
  | .bit7AtHL => Sys2Proof.Machine.execBit7AtHL s
  | .bit7A => Sys2Proof.Machine.execBit7A s
  | .res0B => Sys2Proof.Machine.execRes0B s
  | .res0C => Sys2Proof.Machine.execRes0C s
  | .res0D => Sys2Proof.Machine.execRes0D s
  | .res0E => Sys2Proof.Machine.execRes0E s
  | .res0H => Sys2Proof.Machine.execRes0H s
  | .res0L => Sys2Proof.Machine.execRes0L s
  | .res0AtHL => Sys2Proof.Machine.execRes0AtHL s
  | .res0A => Sys2Proof.Machine.execRes0A s
  | .res1B => Sys2Proof.Machine.execRes1B s
  | .res1C => Sys2Proof.Machine.execRes1C s
  | .res1D => Sys2Proof.Machine.execRes1D s
  | .res1E => Sys2Proof.Machine.execRes1E s
  | .res1H => Sys2Proof.Machine.execRes1H s
  | .res1L => Sys2Proof.Machine.execRes1L s
  | .res1AtHL => Sys2Proof.Machine.execRes1AtHL s
  | .res1A => Sys2Proof.Machine.execRes1A s
  | .res2B => Sys2Proof.Machine.execRes2B s
  | .res2C => Sys2Proof.Machine.execRes2C s
  | .res2D => Sys2Proof.Machine.execRes2D s
  | .res2E => Sys2Proof.Machine.execRes2E s
  | .res2H => Sys2Proof.Machine.execRes2H s
  | .res2L => Sys2Proof.Machine.execRes2L s
  | .res2AtHL => Sys2Proof.Machine.execRes2AtHL s
  | .res2A => Sys2Proof.Machine.execRes2A s
  | .res3B => Sys2Proof.Machine.execRes3B s
  | .res3C => Sys2Proof.Machine.execRes3C s
  | .res3D => Sys2Proof.Machine.execRes3D s
  | .res3E => Sys2Proof.Machine.execRes3E s
  | .res3H => Sys2Proof.Machine.execRes3H s
  | .res3L => Sys2Proof.Machine.execRes3L s
  | .res3AtHL => Sys2Proof.Machine.execRes3AtHL s
  | .res3A => Sys2Proof.Machine.execRes3A s
  | .res4B => Sys2Proof.Machine.execRes4B s
  | .res4C => Sys2Proof.Machine.execRes4C s
  | .res4D => Sys2Proof.Machine.execRes4D s
  | .res4E => Sys2Proof.Machine.execRes4E s
  | .res4H => Sys2Proof.Machine.execRes4H s
  | .res4L => Sys2Proof.Machine.execRes4L s
  | .res4AtHL => Sys2Proof.Machine.execRes4AtHL s
  | .res4A => Sys2Proof.Machine.execRes4A s
  | .res5B => Sys2Proof.Machine.execRes5B s
  | .res5C => Sys2Proof.Machine.execRes5C s
  | .res5D => Sys2Proof.Machine.execRes5D s
  | .res5E => Sys2Proof.Machine.execRes5E s
  | .res5H => Sys2Proof.Machine.execRes5H s
  | .res5L => Sys2Proof.Machine.execRes5L s
  | .res5AtHL => Sys2Proof.Machine.execRes5AtHL s
  | .res5A => Sys2Proof.Machine.execRes5A s
  | .res6B => Sys2Proof.Machine.execRes6B s
  | .res6C => Sys2Proof.Machine.execRes6C s
  | .res6D => Sys2Proof.Machine.execRes6D s
  | .res6E => Sys2Proof.Machine.execRes6E s
  | .res6H => Sys2Proof.Machine.execRes6H s
  | .res6L => Sys2Proof.Machine.execRes6L s
  | .res6AtHL => Sys2Proof.Machine.execRes6AtHL s
  | .res6A => Sys2Proof.Machine.execRes6A s
  | .res7B => Sys2Proof.Machine.execRes7B s
  | .res7C => Sys2Proof.Machine.execRes7C s
  | .res7D => Sys2Proof.Machine.execRes7D s
  | .res7E => Sys2Proof.Machine.execRes7E s
  | .res7H => Sys2Proof.Machine.execRes7H s
  | .res7L => Sys2Proof.Machine.execRes7L s
  | .res7AtHL => Sys2Proof.Machine.execRes7AtHL s
  | .res7A => Sys2Proof.Machine.execRes7A s
  | .set0B => Sys2Proof.Machine.execSet0B s
  | .set0C => Sys2Proof.Machine.execSet0C s
  | .set0D => Sys2Proof.Machine.execSet0D s
  | .set0E => Sys2Proof.Machine.execSet0E s
  | .set0H => Sys2Proof.Machine.execSet0H s
  | .set0L => Sys2Proof.Machine.execSet0L s
  | .set0AtHL => Sys2Proof.Machine.execSet0AtHL s
  | .set0A => Sys2Proof.Machine.execSet0A s
  | .set1B => Sys2Proof.Machine.execSet1B s
  | .set1C => Sys2Proof.Machine.execSet1C s
  | .set1D => Sys2Proof.Machine.execSet1D s
  | .set1E => Sys2Proof.Machine.execSet1E s
  | .set1H => Sys2Proof.Machine.execSet1H s
  | .set1L => Sys2Proof.Machine.execSet1L s
  | .set1AtHL => Sys2Proof.Machine.execSet1AtHL s
  | .set1A => Sys2Proof.Machine.execSet1A s
  | .set2B => Sys2Proof.Machine.execSet2B s
  | .set2C => Sys2Proof.Machine.execSet2C s
  | .set2D => Sys2Proof.Machine.execSet2D s
  | .set2E => Sys2Proof.Machine.execSet2E s
  | .set2H => Sys2Proof.Machine.execSet2H s
  | .set2L => Sys2Proof.Machine.execSet2L s
  | .set2AtHL => Sys2Proof.Machine.execSet2AtHL s
  | .set2A => Sys2Proof.Machine.execSet2A s
  | .set3B => Sys2Proof.Machine.execSet3B s
  | .set3C => Sys2Proof.Machine.execSet3C s
  | .set3D => Sys2Proof.Machine.execSet3D s
  | .set3E => Sys2Proof.Machine.execSet3E s
  | .set3H => Sys2Proof.Machine.execSet3H s
  | .set3L => Sys2Proof.Machine.execSet3L s
  | .set3AtHL => Sys2Proof.Machine.execSet3AtHL s
  | .set3A => Sys2Proof.Machine.execSet3A s
  | .set4B => Sys2Proof.Machine.execSet4B s
  | .set4C => Sys2Proof.Machine.execSet4C s
  | .set4D => Sys2Proof.Machine.execSet4D s
  | .set4E => Sys2Proof.Machine.execSet4E s
  | .set4H => Sys2Proof.Machine.execSet4H s
  | .set4L => Sys2Proof.Machine.execSet4L s
  | .set4AtHL => Sys2Proof.Machine.execSet4AtHL s
  | .set4A => Sys2Proof.Machine.execSet4A s
  | .set5B => Sys2Proof.Machine.execSet5B s
  | .set5C => Sys2Proof.Machine.execSet5C s
  | .set5D => Sys2Proof.Machine.execSet5D s
  | .set5E => Sys2Proof.Machine.execSet5E s
  | .set5H => Sys2Proof.Machine.execSet5H s
  | .set5L => Sys2Proof.Machine.execSet5L s
  | .set5AtHL => Sys2Proof.Machine.execSet5AtHL s
  | .set5A => Sys2Proof.Machine.execSet5A s
  | .set6B => Sys2Proof.Machine.execSet6B s
  | .set6C => Sys2Proof.Machine.execSet6C s
  | .set6D => Sys2Proof.Machine.execSet6D s
  | .set6E => Sys2Proof.Machine.execSet6E s
  | .set6H => Sys2Proof.Machine.execSet6H s
  | .set6L => Sys2Proof.Machine.execSet6L s
  | .set6AtHL => Sys2Proof.Machine.execSet6AtHL s
  | .set6A => Sys2Proof.Machine.execSet6A s
  | .set7B => Sys2Proof.Machine.execSet7B s
  | .set7C => Sys2Proof.Machine.execSet7C s
  | .set7D => Sys2Proof.Machine.execSet7D s
  | .set7E => Sys2Proof.Machine.execSet7E s
  | .set7H => Sys2Proof.Machine.execSet7H s
  | .set7L => Sys2Proof.Machine.execSet7L s
  | .set7AtHL => Sys2Proof.Machine.execSet7AtHL s
  | .set7A => Sys2Proof.Machine.execSet7A s
  | .inBAtC => Sys2Proof.Machine.execInBAtC s
  | .outAtCB => Sys2Proof.Machine.execOutAtCB s
  | .sbcHLBC => Sys2Proof.Machine.execSbcHLBC s
  | .ldAtAbsBC => Sys2Proof.Machine.execLdAtAbsBC s
  | .ldIA => Sys2Proof.Machine.execLdIA s
  | .inCAtC => Sys2Proof.Machine.execInCAtC s
  | .outAtCC => Sys2Proof.Machine.execOutAtCC s
  | .adcHLBC => Sys2Proof.Machine.execAdcHLBC s
  | .ldBCAtAbs => Sys2Proof.Machine.execLdBCAtAbs s
  | .reti => Sys2Proof.Machine.execReti s
  | .ldRA => Sys2Proof.Machine.execLdRA s
  | .inDAtC => Sys2Proof.Machine.execInDAtC s
  | .outAtCD => Sys2Proof.Machine.execOutAtCD s
  | .sbcHLDE => Sys2Proof.Machine.execSbcHLDE s
  | .ldAtAbsDE => Sys2Proof.Machine.execLdAtAbsDE s
  | .ldAI => Sys2Proof.Machine.execLdAI s
  | .inEAtC => Sys2Proof.Machine.execInEAtC s
  | .outAtCE => Sys2Proof.Machine.execOutAtCE s
  | .adcHLDE => Sys2Proof.Machine.execAdcHLDE s
  | .ldDEAtAbs => Sys2Proof.Machine.execLdDEAtAbs s
  | .ldAR => Sys2Proof.Machine.execLdAR s
  | .inHAtC => Sys2Proof.Machine.execInHAtC s
  | .outAtCH => Sys2Proof.Machine.execOutAtCH s
  | .sbcHLHL => Sys2Proof.Machine.execSbcHLHL s
  | .ldAtAbsHLEd => Sys2Proof.Machine.execLdAtAbsHLEd s
  | .rrd => Sys2Proof.Machine.execRrd s
  | .inLAtC => Sys2Proof.Machine.execInLAtC s
  | .outAtCL => Sys2Proof.Machine.execOutAtCL s
  | .adcHLHL => Sys2Proof.Machine.execAdcHLHL s
  | .ldHLAtAbsEd => Sys2Proof.Machine.execLdHLAtAbsEd s
  | .rld => Sys2Proof.Machine.execRld s
  | .inAtC => Sys2Proof.Machine.execInAtC s
  | .outAtC0 => Sys2Proof.Machine.execOutAtC0 s
  | .sbcHLSP => Sys2Proof.Machine.execSbcHLSP s
  | .ldAtAbsSP => Sys2Proof.Machine.execLdAtAbsSP s
  | .inAAtC => Sys2Proof.Machine.execInAAtC s
  | .outAtCA => Sys2Proof.Machine.execOutAtCA s
  | .adcHLSP => Sys2Proof.Machine.execAdcHLSP s
  | .ldSPAtAbs => Sys2Proof.Machine.execLdSPAtAbs s
  | .ldi => Sys2Proof.Machine.execLdi s
  | .cpi => Sys2Proof.Machine.execCpi s
  | .ini => Sys2Proof.Machine.execIni s
  | .outi => Sys2Proof.Machine.execOuti s
  | .ldd => Sys2Proof.Machine.execLdd s
  | .cpd => Sys2Proof.Machine.execCpd s
  | .ind => Sys2Proof.Machine.execInd s
  | .outd => Sys2Proof.Machine.execOutd s
  | .ldir => Sys2Proof.Machine.execLdir s
  | .cpir => Sys2Proof.Machine.execCpir s
  | .inir => Sys2Proof.Machine.execInir s
  | .otir => Sys2Proof.Machine.execOtir s
  | .lddr => Sys2Proof.Machine.execLddr s
  | .cpdr => Sys2Proof.Machine.execCpdr s
  | .indr => Sys2Proof.Machine.execIndr s
  | .otdr => Sys2Proof.Machine.execOtdr s
  | .addIXBC => Sys2Proof.Machine.execAddIXBC s
  | .addIXDE => Sys2Proof.Machine.execAddIXDE s
  | .ldIXImm16 => Sys2Proof.Machine.execLdIXImm16 s
  | .ldAtAbsIX => Sys2Proof.Machine.execLdAtAbsIX s
  | .incIX => Sys2Proof.Machine.execIncIX s
  | .incIXH => Sys2Proof.Machine.execIncIXH s
  | .decIXH => Sys2Proof.Machine.execDecIXH s
  | .ldIXHImm => Sys2Proof.Machine.execLdIXHImm s
  | .addIXIX => Sys2Proof.Machine.execAddIXIX s
  | .ldIXAtAbs => Sys2Proof.Machine.execLdIXAtAbs s
  | .decIX => Sys2Proof.Machine.execDecIX s
  | .incIXL => Sys2Proof.Machine.execIncIXL s
  | .decIXL => Sys2Proof.Machine.execDecIXL s
  | .ldIXLImm => Sys2Proof.Machine.execLdIXLImm s
  | .incAtIXd => Sys2Proof.Machine.execIncAtIXd s
  | .decAtIXd => Sys2Proof.Machine.execDecAtIXd s
  | .ldAtIXdImm => Sys2Proof.Machine.execLdAtIXdImm s
  | .addIXSP => Sys2Proof.Machine.execAddIXSP s
  | .ldBIXH => Sys2Proof.Machine.execLdBIXH s
  | .ldBIXL => Sys2Proof.Machine.execLdBIXL s
  | .ldBAtIXd => Sys2Proof.Machine.execLdBAtIXd s
  | .ldCIXH => Sys2Proof.Machine.execLdCIXH s
  | .ldCIXL => Sys2Proof.Machine.execLdCIXL s
  | .ldCAtIXd => Sys2Proof.Machine.execLdCAtIXd s
  | .ldDIXH => Sys2Proof.Machine.execLdDIXH s
  | .ldDIXL => Sys2Proof.Machine.execLdDIXL s
  | .ldDAtIXd => Sys2Proof.Machine.execLdDAtIXd s
  | .ldEIXH => Sys2Proof.Machine.execLdEIXH s
  | .ldEIXL => Sys2Proof.Machine.execLdEIXL s
  | .ldEAtIXd => Sys2Proof.Machine.execLdEAtIXd s
  | .ldIXHB => Sys2Proof.Machine.execLdIXHB s
  | .ldIXHC => Sys2Proof.Machine.execLdIXHC s
  | .ldIXHD => Sys2Proof.Machine.execLdIXHD s
  | .ldIXHE => Sys2Proof.Machine.execLdIXHE s
  | .ldIXHIXH => Sys2Proof.Machine.execLdIXHIXH s
  | .ldIXHIXL => Sys2Proof.Machine.execLdIXHIXL s
  | .ldHAtIXd => Sys2Proof.Machine.execLdHAtIXd s
  | .ldIXHA => Sys2Proof.Machine.execLdIXHA s
  | .ldIXLB => Sys2Proof.Machine.execLdIXLB s
  | .ldIXLC => Sys2Proof.Machine.execLdIXLC s
  | .ldIXLD => Sys2Proof.Machine.execLdIXLD s
  | .ldIXLE => Sys2Proof.Machine.execLdIXLE s
  | .ldIXLIXH => Sys2Proof.Machine.execLdIXLIXH s
  | .ldIXLIXL => Sys2Proof.Machine.execLdIXLIXL s
  | .ldLAtIXd => Sys2Proof.Machine.execLdLAtIXd s
  | .ldIXLA => Sys2Proof.Machine.execLdIXLA s
  | .ldAtIXdB => Sys2Proof.Machine.execLdAtIXdB s
  | .ldAtIXdC => Sys2Proof.Machine.execLdAtIXdC s
  | .ldAtIXdD => Sys2Proof.Machine.execLdAtIXdD s
  | .ldAtIXdE => Sys2Proof.Machine.execLdAtIXdE s
  | .ldAtIXdH => Sys2Proof.Machine.execLdAtIXdH s
  | .ldAtIXdL => Sys2Proof.Machine.execLdAtIXdL s
  | .ldAtIXdA => Sys2Proof.Machine.execLdAtIXdA s
  | .ldAIXH => Sys2Proof.Machine.execLdAIXH s
  | .ldAIXL => Sys2Proof.Machine.execLdAIXL s
  | .ldAAtIXd => Sys2Proof.Machine.execLdAAtIXd s
  | .addAIXH => Sys2Proof.Machine.execAddAIXH s
  | .addAIXL => Sys2Proof.Machine.execAddAIXL s
  | .addAAtIXd => Sys2Proof.Machine.execAddAAtIXd s
  | .adcAIXH => Sys2Proof.Machine.execAdcAIXH s
  | .adcAIXL => Sys2Proof.Machine.execAdcAIXL s
  | .adcAAtIXd => Sys2Proof.Machine.execAdcAAtIXd s
  | .subIXH => Sys2Proof.Machine.execSubIXH s
  | .subIXL => Sys2Proof.Machine.execSubIXL s
  | .subAtIXd => Sys2Proof.Machine.execSubAtIXd s
  | .sbcAIXH => Sys2Proof.Machine.execSbcAIXH s
  | .sbcAIXL => Sys2Proof.Machine.execSbcAIXL s
  | .sbcAAtIXd => Sys2Proof.Machine.execSbcAAtIXd s
  | .andIXH => Sys2Proof.Machine.execAndIXH s
  | .andIXL => Sys2Proof.Machine.execAndIXL s
  | .andAtIXd => Sys2Proof.Machine.execAndAtIXd s
  | .xorIXH => Sys2Proof.Machine.execXorIXH s
  | .xorIXL => Sys2Proof.Machine.execXorIXL s
  | .xorAtIXd => Sys2Proof.Machine.execXorAtIXd s
  | .orIXH => Sys2Proof.Machine.execOrIXH s
  | .orIXL => Sys2Proof.Machine.execOrIXL s
  | .orAtIXd => Sys2Proof.Machine.execOrAtIXd s
  | .cpIXH => Sys2Proof.Machine.execCpIXH s
  | .cpIXL => Sys2Proof.Machine.execCpIXL s
  | .cpAtIXd => Sys2Proof.Machine.execCpAtIXd s
  | .popIX => Sys2Proof.Machine.execPopIX s
  | .exAtSPIX => Sys2Proof.Machine.execExAtSPIX s
  | .pushIX => Sys2Proof.Machine.execPushIX s
  | .jpAtIX => Sys2Proof.Machine.execJpAtIX s
  | .ldSPIX => Sys2Proof.Machine.execLdSPIX s
  | .addIYBC => Sys2Proof.Machine.execAddIYBC s
  | .addIYDE => Sys2Proof.Machine.execAddIYDE s
  | .ldIYImm16 => Sys2Proof.Machine.execLdIYImm16 s
  | .ldAtAbsIY => Sys2Proof.Machine.execLdAtAbsIY s
  | .incIY => Sys2Proof.Machine.execIncIY s
  | .incIYH => Sys2Proof.Machine.execIncIYH s
  | .decIYH => Sys2Proof.Machine.execDecIYH s
  | .ldIYHImm => Sys2Proof.Machine.execLdIYHImm s
  | .addIYIY => Sys2Proof.Machine.execAddIYIY s
  | .ldIYAtAbs => Sys2Proof.Machine.execLdIYAtAbs s
  | .decIY => Sys2Proof.Machine.execDecIY s
  | .incIYL => Sys2Proof.Machine.execIncIYL s
  | .decIYL => Sys2Proof.Machine.execDecIYL s
  | .ldIYLImm => Sys2Proof.Machine.execLdIYLImm s
  | .incAtIYd => Sys2Proof.Machine.execIncAtIYd s
  | .decAtIYd => Sys2Proof.Machine.execDecAtIYd s
  | .ldAtIYdImm => Sys2Proof.Machine.execLdAtIYdImm s
  | .addIYSP => Sys2Proof.Machine.execAddIYSP s
  | .ldBIYH => Sys2Proof.Machine.execLdBIYH s
  | .ldBIYL => Sys2Proof.Machine.execLdBIYL s
  | .ldBAtIYd => Sys2Proof.Machine.execLdBAtIYd s
  | .ldCIYH => Sys2Proof.Machine.execLdCIYH s
  | .ldCIYL => Sys2Proof.Machine.execLdCIYL s
  | .ldCAtIYd => Sys2Proof.Machine.execLdCAtIYd s
  | .ldDIYH => Sys2Proof.Machine.execLdDIYH s
  | .ldDIYL => Sys2Proof.Machine.execLdDIYL s
  | .ldDAtIYd => Sys2Proof.Machine.execLdDAtIYd s
  | .ldEIYH => Sys2Proof.Machine.execLdEIYH s
  | .ldEIYL => Sys2Proof.Machine.execLdEIYL s
  | .ldEAtIYd => Sys2Proof.Machine.execLdEAtIYd s
  | .ldIYHB => Sys2Proof.Machine.execLdIYHB s
  | .ldIYHC => Sys2Proof.Machine.execLdIYHC s
  | .ldIYHD => Sys2Proof.Machine.execLdIYHD s
  | .ldIYHE => Sys2Proof.Machine.execLdIYHE s
  | .ldIYHIYH => Sys2Proof.Machine.execLdIYHIYH s
  | .ldIYHIYL => Sys2Proof.Machine.execLdIYHIYL s
  | .ldHAtIYd => Sys2Proof.Machine.execLdHAtIYd s
  | .ldIYHA => Sys2Proof.Machine.execLdIYHA s
  | .ldIYLB => Sys2Proof.Machine.execLdIYLB s
  | .ldIYLC => Sys2Proof.Machine.execLdIYLC s
  | .ldIYLD => Sys2Proof.Machine.execLdIYLD s
  | .ldIYLE => Sys2Proof.Machine.execLdIYLE s
  | .ldIYLIYH => Sys2Proof.Machine.execLdIYLIYH s
  | .ldIYLIYL => Sys2Proof.Machine.execLdIYLIYL s
  | .ldLAtIYd => Sys2Proof.Machine.execLdLAtIYd s
  | .ldIYLA => Sys2Proof.Machine.execLdIYLA s
  | .ldAtIYdB => Sys2Proof.Machine.execLdAtIYdB s
  | .ldAtIYdC => Sys2Proof.Machine.execLdAtIYdC s
  | .ldAtIYdD => Sys2Proof.Machine.execLdAtIYdD s
  | .ldAtIYdE => Sys2Proof.Machine.execLdAtIYdE s
  | .ldAtIYdH => Sys2Proof.Machine.execLdAtIYdH s
  | .ldAtIYdL => Sys2Proof.Machine.execLdAtIYdL s
  | .ldAtIYdA => Sys2Proof.Machine.execLdAtIYdA s
  | .ldAIYH => Sys2Proof.Machine.execLdAIYH s
  | .ldAIYL => Sys2Proof.Machine.execLdAIYL s
  | .ldAAtIYd => Sys2Proof.Machine.execLdAAtIYd s
  | .addAIYH => Sys2Proof.Machine.execAddAIYH s
  | .addAIYL => Sys2Proof.Machine.execAddAIYL s
  | .addAAtIYd => Sys2Proof.Machine.execAddAAtIYd s
  | .adcAIYH => Sys2Proof.Machine.execAdcAIYH s
  | .adcAIYL => Sys2Proof.Machine.execAdcAIYL s
  | .adcAAtIYd => Sys2Proof.Machine.execAdcAAtIYd s
  | .subIYH => Sys2Proof.Machine.execSubIYH s
  | .subIYL => Sys2Proof.Machine.execSubIYL s
  | .subAtIYd => Sys2Proof.Machine.execSubAtIYd s
  | .sbcAIYH => Sys2Proof.Machine.execSbcAIYH s
  | .sbcAIYL => Sys2Proof.Machine.execSbcAIYL s
  | .sbcAAtIYd => Sys2Proof.Machine.execSbcAAtIYd s
  | .andIYH => Sys2Proof.Machine.execAndIYH s
  | .andIYL => Sys2Proof.Machine.execAndIYL s
  | .andAtIYd => Sys2Proof.Machine.execAndAtIYd s
  | .xorIYH => Sys2Proof.Machine.execXorIYH s
  | .xorIYL => Sys2Proof.Machine.execXorIYL s
  | .xorAtIYd => Sys2Proof.Machine.execXorAtIYd s
  | .orIYH => Sys2Proof.Machine.execOrIYH s
  | .orIYL => Sys2Proof.Machine.execOrIYL s
  | .orAtIYd => Sys2Proof.Machine.execOrAtIYd s
  | .cpIYH => Sys2Proof.Machine.execCpIYH s
  | .cpIYL => Sys2Proof.Machine.execCpIYL s
  | .cpAtIYd => Sys2Proof.Machine.execCpAtIYd s
  | .popIY => Sys2Proof.Machine.execPopIY s
  | .exAtSPIY => Sys2Proof.Machine.execExAtSPIY s
  | .pushIY => Sys2Proof.Machine.execPushIY s
  | .jpAtIY => Sys2Proof.Machine.execJpAtIY s
  | .ldSPIY => Sys2Proof.Machine.execLdSPIY s
  | .ldBRlcAtIXd => Sys2Proof.Machine.execLdBRlcAtIXd s
  | .ldCRlcAtIXd => Sys2Proof.Machine.execLdCRlcAtIXd s
  | .ldDRlcAtIXd => Sys2Proof.Machine.execLdDRlcAtIXd s
  | .ldERlcAtIXd => Sys2Proof.Machine.execLdERlcAtIXd s
  | .ldHRlcAtIXd => Sys2Proof.Machine.execLdHRlcAtIXd s
  | .ldLRlcAtIXd => Sys2Proof.Machine.execLdLRlcAtIXd s
  | .rlcAtIXd => Sys2Proof.Machine.execRlcAtIXd s
  | .ldARlcAtIXd => Sys2Proof.Machine.execLdARlcAtIXd s
  | .ldBRrcAtIXd => Sys2Proof.Machine.execLdBRrcAtIXd s
  | .ldCRrcAtIXd => Sys2Proof.Machine.execLdCRrcAtIXd s
  | .ldDRrcAtIXd => Sys2Proof.Machine.execLdDRrcAtIXd s
  | .ldERrcAtIXd => Sys2Proof.Machine.execLdERrcAtIXd s
  | .ldHRrcAtIXd => Sys2Proof.Machine.execLdHRrcAtIXd s
  | .ldLRrcAtIXd => Sys2Proof.Machine.execLdLRrcAtIXd s
  | .rrcAtIXd => Sys2Proof.Machine.execRrcAtIXd s
  | .ldARrcAtIXd => Sys2Proof.Machine.execLdARrcAtIXd s
  | .ldBRlAtIXd => Sys2Proof.Machine.execLdBRlAtIXd s
  | .ldCRlAtIXd => Sys2Proof.Machine.execLdCRlAtIXd s
  | .ldDRlAtIXd => Sys2Proof.Machine.execLdDRlAtIXd s
  | .ldERlAtIXd => Sys2Proof.Machine.execLdERlAtIXd s
  | .ldHRlAtIXd => Sys2Proof.Machine.execLdHRlAtIXd s
  | .ldLRlAtIXd => Sys2Proof.Machine.execLdLRlAtIXd s
  | .rlAtIXd => Sys2Proof.Machine.execRlAtIXd s
  | .ldARlAtIXd => Sys2Proof.Machine.execLdARlAtIXd s
  | .ldBRrAtIXd => Sys2Proof.Machine.execLdBRrAtIXd s
  | .ldCRrAtIXd => Sys2Proof.Machine.execLdCRrAtIXd s
  | .ldDRrAtIXd => Sys2Proof.Machine.execLdDRrAtIXd s
  | .ldERrAtIXd => Sys2Proof.Machine.execLdERrAtIXd s
  | .ldHRrAtIXd => Sys2Proof.Machine.execLdHRrAtIXd s
  | .ldLRrAtIXd => Sys2Proof.Machine.execLdLRrAtIXd s
  | .rrAtIXd => Sys2Proof.Machine.execRrAtIXd s
  | .ldARrAtIXd => Sys2Proof.Machine.execLdARrAtIXd s
  | .ldBSlaAtIXd => Sys2Proof.Machine.execLdBSlaAtIXd s
  | .ldCSlaAtIXd => Sys2Proof.Machine.execLdCSlaAtIXd s
  | .ldDSlaAtIXd => Sys2Proof.Machine.execLdDSlaAtIXd s
  | .ldESlaAtIXd => Sys2Proof.Machine.execLdESlaAtIXd s
  | .ldHSlaAtIXd => Sys2Proof.Machine.execLdHSlaAtIXd s
  | .ldLSlaAtIXd => Sys2Proof.Machine.execLdLSlaAtIXd s
  | .slaAtIXd => Sys2Proof.Machine.execSlaAtIXd s
  | .ldASlaAtIXd => Sys2Proof.Machine.execLdASlaAtIXd s
  | .ldBSraAtIXd => Sys2Proof.Machine.execLdBSraAtIXd s
  | .ldCSraAtIXd => Sys2Proof.Machine.execLdCSraAtIXd s
  | .ldDSraAtIXd => Sys2Proof.Machine.execLdDSraAtIXd s
  | .ldESraAtIXd => Sys2Proof.Machine.execLdESraAtIXd s
  | .ldHSraAtIXd => Sys2Proof.Machine.execLdHSraAtIXd s
  | .ldLSraAtIXd => Sys2Proof.Machine.execLdLSraAtIXd s
  | .sraAtIXd => Sys2Proof.Machine.execSraAtIXd s
  | .ldASraAtIXd => Sys2Proof.Machine.execLdASraAtIXd s
  | .ldBSllAtIXd => Sys2Proof.Machine.execLdBSllAtIXd s
  | .ldCSllAtIXd => Sys2Proof.Machine.execLdCSllAtIXd s
  | .ldDSllAtIXd => Sys2Proof.Machine.execLdDSllAtIXd s
  | .ldESllAtIXd => Sys2Proof.Machine.execLdESllAtIXd s
  | .ldHSllAtIXd => Sys2Proof.Machine.execLdHSllAtIXd s
  | .ldLSllAtIXd => Sys2Proof.Machine.execLdLSllAtIXd s
  | .sllAtIXd => Sys2Proof.Machine.execSllAtIXd s
  | .ldASllAtIXd => Sys2Proof.Machine.execLdASllAtIXd s
  | .ldBSrlAtIXd => Sys2Proof.Machine.execLdBSrlAtIXd s
  | .ldCSrlAtIXd => Sys2Proof.Machine.execLdCSrlAtIXd s
  | .ldDSrlAtIXd => Sys2Proof.Machine.execLdDSrlAtIXd s
  | .ldESrlAtIXd => Sys2Proof.Machine.execLdESrlAtIXd s
  | .ldHSrlAtIXd => Sys2Proof.Machine.execLdHSrlAtIXd s
  | .ldLSrlAtIXd => Sys2Proof.Machine.execLdLSrlAtIXd s
  | .srlAtIXd => Sys2Proof.Machine.execSrlAtIXd s
  | .ldASrlAtIXd => Sys2Proof.Machine.execLdASrlAtIXd s
  | .ldBRes0AtIXd => Sys2Proof.Machine.execLdBRes0AtIXd s
  | .ldCRes0AtIXd => Sys2Proof.Machine.execLdCRes0AtIXd s
  | .ldDRes0AtIXd => Sys2Proof.Machine.execLdDRes0AtIXd s
  | .ldERes0AtIXd => Sys2Proof.Machine.execLdERes0AtIXd s
  | .ldHRes0AtIXd => Sys2Proof.Machine.execLdHRes0AtIXd s
  | .ldLRes0AtIXd => Sys2Proof.Machine.execLdLRes0AtIXd s
  | .res0AtIXd => Sys2Proof.Machine.execRes0AtIXd s
  | .ldARes0AtIXd => Sys2Proof.Machine.execLdARes0AtIXd s
  | .ldBRes1AtIXd => Sys2Proof.Machine.execLdBRes1AtIXd s
  | .ldCRes1AtIXd => Sys2Proof.Machine.execLdCRes1AtIXd s
  | .ldDRes1AtIXd => Sys2Proof.Machine.execLdDRes1AtIXd s
  | .ldERes1AtIXd => Sys2Proof.Machine.execLdERes1AtIXd s
  | .ldHRes1AtIXd => Sys2Proof.Machine.execLdHRes1AtIXd s
  | .ldLRes1AtIXd => Sys2Proof.Machine.execLdLRes1AtIXd s
  | .res1AtIXd => Sys2Proof.Machine.execRes1AtIXd s
  | .ldARes1AtIXd => Sys2Proof.Machine.execLdARes1AtIXd s
  | .ldBRes2AtIXd => Sys2Proof.Machine.execLdBRes2AtIXd s
  | .ldCRes2AtIXd => Sys2Proof.Machine.execLdCRes2AtIXd s
  | .ldDRes2AtIXd => Sys2Proof.Machine.execLdDRes2AtIXd s
  | .ldERes2AtIXd => Sys2Proof.Machine.execLdERes2AtIXd s
  | .ldHRes2AtIXd => Sys2Proof.Machine.execLdHRes2AtIXd s
  | .ldLRes2AtIXd => Sys2Proof.Machine.execLdLRes2AtIXd s
  | .res2AtIXd => Sys2Proof.Machine.execRes2AtIXd s
  | .ldARes2AtIXd => Sys2Proof.Machine.execLdARes2AtIXd s
  | .ldBRes3AtIXd => Sys2Proof.Machine.execLdBRes3AtIXd s
  | .ldCRes3AtIXd => Sys2Proof.Machine.execLdCRes3AtIXd s
  | .ldDRes3AtIXd => Sys2Proof.Machine.execLdDRes3AtIXd s
  | .ldERes3AtIXd => Sys2Proof.Machine.execLdERes3AtIXd s
  | .ldHRes3AtIXd => Sys2Proof.Machine.execLdHRes3AtIXd s
  | .ldLRes3AtIXd => Sys2Proof.Machine.execLdLRes3AtIXd s
  | .res3AtIXd => Sys2Proof.Machine.execRes3AtIXd s
  | .ldARes3AtIXd => Sys2Proof.Machine.execLdARes3AtIXd s
  | .ldBRes4AtIXd => Sys2Proof.Machine.execLdBRes4AtIXd s
  | .ldCRes4AtIXd => Sys2Proof.Machine.execLdCRes4AtIXd s
  | .ldDRes4AtIXd => Sys2Proof.Machine.execLdDRes4AtIXd s
  | .ldERes4AtIXd => Sys2Proof.Machine.execLdERes4AtIXd s
  | .ldHRes4AtIXd => Sys2Proof.Machine.execLdHRes4AtIXd s
  | .ldLRes4AtIXd => Sys2Proof.Machine.execLdLRes4AtIXd s
  | .res4AtIXd => Sys2Proof.Machine.execRes4AtIXd s
  | .ldARes4AtIXd => Sys2Proof.Machine.execLdARes4AtIXd s
  | .ldBRes5AtIXd => Sys2Proof.Machine.execLdBRes5AtIXd s
  | .ldCRes5AtIXd => Sys2Proof.Machine.execLdCRes5AtIXd s
  | .ldDRes5AtIXd => Sys2Proof.Machine.execLdDRes5AtIXd s
  | .ldERes5AtIXd => Sys2Proof.Machine.execLdERes5AtIXd s
  | .ldHRes5AtIXd => Sys2Proof.Machine.execLdHRes5AtIXd s
  | .ldLRes5AtIXd => Sys2Proof.Machine.execLdLRes5AtIXd s
  | .res5AtIXd => Sys2Proof.Machine.execRes5AtIXd s
  | .ldARes5AtIXd => Sys2Proof.Machine.execLdARes5AtIXd s
  | .ldBRes6AtIXd => Sys2Proof.Machine.execLdBRes6AtIXd s
  | .ldCRes6AtIXd => Sys2Proof.Machine.execLdCRes6AtIXd s
  | .ldDRes6AtIXd => Sys2Proof.Machine.execLdDRes6AtIXd s
  | .ldERes6AtIXd => Sys2Proof.Machine.execLdERes6AtIXd s
  | .ldHRes6AtIXd => Sys2Proof.Machine.execLdHRes6AtIXd s
  | .ldLRes6AtIXd => Sys2Proof.Machine.execLdLRes6AtIXd s
  | .res6AtIXd => Sys2Proof.Machine.execRes6AtIXd s
  | .ldARes6AtIXd => Sys2Proof.Machine.execLdARes6AtIXd s
  | .ldBRes7AtIXd => Sys2Proof.Machine.execLdBRes7AtIXd s
  | .ldCRes7AtIXd => Sys2Proof.Machine.execLdCRes7AtIXd s
  | .ldDRes7AtIXd => Sys2Proof.Machine.execLdDRes7AtIXd s
  | .ldERes7AtIXd => Sys2Proof.Machine.execLdERes7AtIXd s
  | .ldHRes7AtIXd => Sys2Proof.Machine.execLdHRes7AtIXd s
  | .ldLRes7AtIXd => Sys2Proof.Machine.execLdLRes7AtIXd s
  | .res7AtIXd => Sys2Proof.Machine.execRes7AtIXd s
  | .ldARes7AtIXd => Sys2Proof.Machine.execLdARes7AtIXd s
  | .ldBSet0AtIXd => Sys2Proof.Machine.execLdBSet0AtIXd s
  | .ldCSet0AtIXd => Sys2Proof.Machine.execLdCSet0AtIXd s
  | .ldDSet0AtIXd => Sys2Proof.Machine.execLdDSet0AtIXd s
  | .ldESet0AtIXd => Sys2Proof.Machine.execLdESet0AtIXd s
  | .ldHSet0AtIXd => Sys2Proof.Machine.execLdHSet0AtIXd s
  | .ldLSet0AtIXd => Sys2Proof.Machine.execLdLSet0AtIXd s
  | .set0AtIXd => Sys2Proof.Machine.execSet0AtIXd s
  | .ldASet0AtIXd => Sys2Proof.Machine.execLdASet0AtIXd s
  | .ldBSet1AtIXd => Sys2Proof.Machine.execLdBSet1AtIXd s
  | .ldCSet1AtIXd => Sys2Proof.Machine.execLdCSet1AtIXd s
  | .ldDSet1AtIXd => Sys2Proof.Machine.execLdDSet1AtIXd s
  | .ldESet1AtIXd => Sys2Proof.Machine.execLdESet1AtIXd s
  | .ldHSet1AtIXd => Sys2Proof.Machine.execLdHSet1AtIXd s
  | .ldLSet1AtIXd => Sys2Proof.Machine.execLdLSet1AtIXd s
  | .set1AtIXd => Sys2Proof.Machine.execSet1AtIXd s
  | .ldASet1AtIXd => Sys2Proof.Machine.execLdASet1AtIXd s
  | .ldBSet2AtIXd => Sys2Proof.Machine.execLdBSet2AtIXd s
  | .ldCSet2AtIXd => Sys2Proof.Machine.execLdCSet2AtIXd s
  | .ldDSet2AtIXd => Sys2Proof.Machine.execLdDSet2AtIXd s
  | .ldESet2AtIXd => Sys2Proof.Machine.execLdESet2AtIXd s
  | .ldHSet2AtIXd => Sys2Proof.Machine.execLdHSet2AtIXd s
  | .ldLSet2AtIXd => Sys2Proof.Machine.execLdLSet2AtIXd s
  | .set2AtIXd => Sys2Proof.Machine.execSet2AtIXd s
  | .ldASet2AtIXd => Sys2Proof.Machine.execLdASet2AtIXd s
  | .ldBSet3AtIXd => Sys2Proof.Machine.execLdBSet3AtIXd s
  | .ldCSet3AtIXd => Sys2Proof.Machine.execLdCSet3AtIXd s
  | .ldDSet3AtIXd => Sys2Proof.Machine.execLdDSet3AtIXd s
  | .ldESet3AtIXd => Sys2Proof.Machine.execLdESet3AtIXd s
  | .ldHSet3AtIXd => Sys2Proof.Machine.execLdHSet3AtIXd s
  | .ldLSet3AtIXd => Sys2Proof.Machine.execLdLSet3AtIXd s
  | .set3AtIXd => Sys2Proof.Machine.execSet3AtIXd s
  | .ldASet3AtIXd => Sys2Proof.Machine.execLdASet3AtIXd s
  | .ldBSet4AtIXd => Sys2Proof.Machine.execLdBSet4AtIXd s
  | .ldCSet4AtIXd => Sys2Proof.Machine.execLdCSet4AtIXd s
  | .ldDSet4AtIXd => Sys2Proof.Machine.execLdDSet4AtIXd s
  | .ldESet4AtIXd => Sys2Proof.Machine.execLdESet4AtIXd s
  | .ldHSet4AtIXd => Sys2Proof.Machine.execLdHSet4AtIXd s
  | .ldLSet4AtIXd => Sys2Proof.Machine.execLdLSet4AtIXd s
  | .set4AtIXd => Sys2Proof.Machine.execSet4AtIXd s
  | .ldASet4AtIXd => Sys2Proof.Machine.execLdASet4AtIXd s
  | .ldBSet5AtIXd => Sys2Proof.Machine.execLdBSet5AtIXd s
  | .ldCSet5AtIXd => Sys2Proof.Machine.execLdCSet5AtIXd s
  | .ldDSet5AtIXd => Sys2Proof.Machine.execLdDSet5AtIXd s
  | .ldESet5AtIXd => Sys2Proof.Machine.execLdESet5AtIXd s
  | .ldHSet5AtIXd => Sys2Proof.Machine.execLdHSet5AtIXd s
  | .ldLSet5AtIXd => Sys2Proof.Machine.execLdLSet5AtIXd s
  | .set5AtIXd => Sys2Proof.Machine.execSet5AtIXd s
  | .ldASet5AtIXd => Sys2Proof.Machine.execLdASet5AtIXd s
  | .ldBSet6AtIXd => Sys2Proof.Machine.execLdBSet6AtIXd s
  | .ldCSet6AtIXd => Sys2Proof.Machine.execLdCSet6AtIXd s
  | .ldDSet6AtIXd => Sys2Proof.Machine.execLdDSet6AtIXd s
  | .ldESet6AtIXd => Sys2Proof.Machine.execLdESet6AtIXd s
  | .ldHSet6AtIXd => Sys2Proof.Machine.execLdHSet6AtIXd s
  | .ldLSet6AtIXd => Sys2Proof.Machine.execLdLSet6AtIXd s
  | .set6AtIXd => Sys2Proof.Machine.execSet6AtIXd s
  | .ldASet6AtIXd => Sys2Proof.Machine.execLdASet6AtIXd s
  | .ldBSet7AtIXd => Sys2Proof.Machine.execLdBSet7AtIXd s
  | .ldCSet7AtIXd => Sys2Proof.Machine.execLdCSet7AtIXd s
  | .ldDSet7AtIXd => Sys2Proof.Machine.execLdDSet7AtIXd s
  | .ldESet7AtIXd => Sys2Proof.Machine.execLdESet7AtIXd s
  | .ldHSet7AtIXd => Sys2Proof.Machine.execLdHSet7AtIXd s
  | .ldLSet7AtIXd => Sys2Proof.Machine.execLdLSet7AtIXd s
  | .set7AtIXd => Sys2Proof.Machine.execSet7AtIXd s
  | .ldASet7AtIXd => Sys2Proof.Machine.execLdASet7AtIXd s
  | .ldBRlcAtIYd => Sys2Proof.Machine.execLdBRlcAtIYd s
  | .ldCRlcAtIYd => Sys2Proof.Machine.execLdCRlcAtIYd s
  | .ldDRlcAtIYd => Sys2Proof.Machine.execLdDRlcAtIYd s
  | .ldERlcAtIYd => Sys2Proof.Machine.execLdERlcAtIYd s
  | .ldHRlcAtIYd => Sys2Proof.Machine.execLdHRlcAtIYd s
  | .ldLRlcAtIYd => Sys2Proof.Machine.execLdLRlcAtIYd s
  | .rlcAtIYd => Sys2Proof.Machine.execRlcAtIYd s
  | .ldARlcAtIYd => Sys2Proof.Machine.execLdARlcAtIYd s
  | .ldBRrcAtIYd => Sys2Proof.Machine.execLdBRrcAtIYd s
  | .ldCRrcAtIYd => Sys2Proof.Machine.execLdCRrcAtIYd s
  | .ldDRrcAtIYd => Sys2Proof.Machine.execLdDRrcAtIYd s
  | .ldERrcAtIYd => Sys2Proof.Machine.execLdERrcAtIYd s
  | .ldHRrcAtIYd => Sys2Proof.Machine.execLdHRrcAtIYd s
  | .ldLRrcAtIYd => Sys2Proof.Machine.execLdLRrcAtIYd s
  | .rrcAtIYd => Sys2Proof.Machine.execRrcAtIYd s
  | .ldARrcAtIYd => Sys2Proof.Machine.execLdARrcAtIYd s
  | .ldBRlAtIYd => Sys2Proof.Machine.execLdBRlAtIYd s
  | .ldCRlAtIYd => Sys2Proof.Machine.execLdCRlAtIYd s
  | .ldDRlAtIYd => Sys2Proof.Machine.execLdDRlAtIYd s
  | .ldERlAtIYd => Sys2Proof.Machine.execLdERlAtIYd s
  | .ldHRlAtIYd => Sys2Proof.Machine.execLdHRlAtIYd s
  | .ldLRlAtIYd => Sys2Proof.Machine.execLdLRlAtIYd s
  | .rlAtIYd => Sys2Proof.Machine.execRlAtIYd s
  | .ldARlAtIYd => Sys2Proof.Machine.execLdARlAtIYd s
  | .ldBRrAtIYd => Sys2Proof.Machine.execLdBRrAtIYd s
  | .ldCRrAtIYd => Sys2Proof.Machine.execLdCRrAtIYd s
  | .ldDRrAtIYd => Sys2Proof.Machine.execLdDRrAtIYd s
  | .ldERrAtIYd => Sys2Proof.Machine.execLdERrAtIYd s
  | .ldHRrAtIYd => Sys2Proof.Machine.execLdHRrAtIYd s
  | .ldLRrAtIYd => Sys2Proof.Machine.execLdLRrAtIYd s
  | .rrAtIYd => Sys2Proof.Machine.execRrAtIYd s
  | .ldARrAtIYd => Sys2Proof.Machine.execLdARrAtIYd s
  | .ldBSlaAtIYd => Sys2Proof.Machine.execLdBSlaAtIYd s
  | .ldCSlaAtIYd => Sys2Proof.Machine.execLdCSlaAtIYd s
  | .ldDSlaAtIYd => Sys2Proof.Machine.execLdDSlaAtIYd s
  | .ldESlaAtIYd => Sys2Proof.Machine.execLdESlaAtIYd s
  | .ldHSlaAtIYd => Sys2Proof.Machine.execLdHSlaAtIYd s
  | .ldLSlaAtIYd => Sys2Proof.Machine.execLdLSlaAtIYd s
  | .slaAtIYd => Sys2Proof.Machine.execSlaAtIYd s
  | .ldASlaAtIYd => Sys2Proof.Machine.execLdASlaAtIYd s
  | .ldBSraAtIYd => Sys2Proof.Machine.execLdBSraAtIYd s
  | .ldCSraAtIYd => Sys2Proof.Machine.execLdCSraAtIYd s
  | .ldDSraAtIYd => Sys2Proof.Machine.execLdDSraAtIYd s
  | .ldESraAtIYd => Sys2Proof.Machine.execLdESraAtIYd s
  | .ldHSraAtIYd => Sys2Proof.Machine.execLdHSraAtIYd s
  | .ldLSraAtIYd => Sys2Proof.Machine.execLdLSraAtIYd s
  | .sraAtIYd => Sys2Proof.Machine.execSraAtIYd s
  | .ldASraAtIYd => Sys2Proof.Machine.execLdASraAtIYd s
  | .ldBSllAtIYd => Sys2Proof.Machine.execLdBSllAtIYd s
  | .ldCSllAtIYd => Sys2Proof.Machine.execLdCSllAtIYd s
  | .ldDSllAtIYd => Sys2Proof.Machine.execLdDSllAtIYd s
  | .ldESllAtIYd => Sys2Proof.Machine.execLdESllAtIYd s
  | .ldHSllAtIYd => Sys2Proof.Machine.execLdHSllAtIYd s
  | .ldLSllAtIYd => Sys2Proof.Machine.execLdLSllAtIYd s
  | .sllAtIYd => Sys2Proof.Machine.execSllAtIYd s
  | .ldASllAtIYd => Sys2Proof.Machine.execLdASllAtIYd s
  | .ldBSrlAtIYd => Sys2Proof.Machine.execLdBSrlAtIYd s
  | .ldCSrlAtIYd => Sys2Proof.Machine.execLdCSrlAtIYd s
  | .ldDSrlAtIYd => Sys2Proof.Machine.execLdDSrlAtIYd s
  | .ldESrlAtIYd => Sys2Proof.Machine.execLdESrlAtIYd s
  | .ldHSrlAtIYd => Sys2Proof.Machine.execLdHSrlAtIYd s
  | .ldLSrlAtIYd => Sys2Proof.Machine.execLdLSrlAtIYd s
  | .srlAtIYd => Sys2Proof.Machine.execSrlAtIYd s
  | .ldASrlAtIYd => Sys2Proof.Machine.execLdASrlAtIYd s
  | .ldBRes0AtIYd => Sys2Proof.Machine.execLdBRes0AtIYd s
  | .ldCRes0AtIYd => Sys2Proof.Machine.execLdCRes0AtIYd s
  | .ldDRes0AtIYd => Sys2Proof.Machine.execLdDRes0AtIYd s
  | .ldERes0AtIYd => Sys2Proof.Machine.execLdERes0AtIYd s
  | .ldHRes0AtIYd => Sys2Proof.Machine.execLdHRes0AtIYd s
  | .ldLRes0AtIYd => Sys2Proof.Machine.execLdLRes0AtIYd s
  | .res0AtIYd => Sys2Proof.Machine.execRes0AtIYd s
  | .ldARes0AtIYd => Sys2Proof.Machine.execLdARes0AtIYd s
  | .ldBRes1AtIYd => Sys2Proof.Machine.execLdBRes1AtIYd s
  | .ldCRes1AtIYd => Sys2Proof.Machine.execLdCRes1AtIYd s
  | .ldDRes1AtIYd => Sys2Proof.Machine.execLdDRes1AtIYd s
  | .ldERes1AtIYd => Sys2Proof.Machine.execLdERes1AtIYd s
  | .ldHRes1AtIYd => Sys2Proof.Machine.execLdHRes1AtIYd s
  | .ldLRes1AtIYd => Sys2Proof.Machine.execLdLRes1AtIYd s
  | .res1AtIYd => Sys2Proof.Machine.execRes1AtIYd s
  | .ldARes1AtIYd => Sys2Proof.Machine.execLdARes1AtIYd s
  | .ldBRes2AtIYd => Sys2Proof.Machine.execLdBRes2AtIYd s
  | .ldCRes2AtIYd => Sys2Proof.Machine.execLdCRes2AtIYd s
  | .ldDRes2AtIYd => Sys2Proof.Machine.execLdDRes2AtIYd s
  | .ldERes2AtIYd => Sys2Proof.Machine.execLdERes2AtIYd s
  | .ldHRes2AtIYd => Sys2Proof.Machine.execLdHRes2AtIYd s
  | .ldLRes2AtIYd => Sys2Proof.Machine.execLdLRes2AtIYd s
  | .res2AtIYd => Sys2Proof.Machine.execRes2AtIYd s
  | .ldARes2AtIYd => Sys2Proof.Machine.execLdARes2AtIYd s
  | .ldBRes3AtIYd => Sys2Proof.Machine.execLdBRes3AtIYd s
  | .ldCRes3AtIYd => Sys2Proof.Machine.execLdCRes3AtIYd s
  | .ldDRes3AtIYd => Sys2Proof.Machine.execLdDRes3AtIYd s
  | .ldERes3AtIYd => Sys2Proof.Machine.execLdERes3AtIYd s
  | .ldHRes3AtIYd => Sys2Proof.Machine.execLdHRes3AtIYd s
  | .ldLRes3AtIYd => Sys2Proof.Machine.execLdLRes3AtIYd s
  | .res3AtIYd => Sys2Proof.Machine.execRes3AtIYd s
  | .ldARes3AtIYd => Sys2Proof.Machine.execLdARes3AtIYd s
  | .ldBRes4AtIYd => Sys2Proof.Machine.execLdBRes4AtIYd s
  | .ldCRes4AtIYd => Sys2Proof.Machine.execLdCRes4AtIYd s
  | .ldDRes4AtIYd => Sys2Proof.Machine.execLdDRes4AtIYd s
  | .ldERes4AtIYd => Sys2Proof.Machine.execLdERes4AtIYd s
  | .ldHRes4AtIYd => Sys2Proof.Machine.execLdHRes4AtIYd s
  | .ldLRes4AtIYd => Sys2Proof.Machine.execLdLRes4AtIYd s
  | .res4AtIYd => Sys2Proof.Machine.execRes4AtIYd s
  | .ldARes4AtIYd => Sys2Proof.Machine.execLdARes4AtIYd s
  | .ldBRes5AtIYd => Sys2Proof.Machine.execLdBRes5AtIYd s
  | .ldCRes5AtIYd => Sys2Proof.Machine.execLdCRes5AtIYd s
  | .ldDRes5AtIYd => Sys2Proof.Machine.execLdDRes5AtIYd s
  | .ldERes5AtIYd => Sys2Proof.Machine.execLdERes5AtIYd s
  | .ldHRes5AtIYd => Sys2Proof.Machine.execLdHRes5AtIYd s
  | .ldLRes5AtIYd => Sys2Proof.Machine.execLdLRes5AtIYd s
  | .res5AtIYd => Sys2Proof.Machine.execRes5AtIYd s
  | .ldARes5AtIYd => Sys2Proof.Machine.execLdARes5AtIYd s
  | .ldBRes6AtIYd => Sys2Proof.Machine.execLdBRes6AtIYd s
  | .ldCRes6AtIYd => Sys2Proof.Machine.execLdCRes6AtIYd s
  | .ldDRes6AtIYd => Sys2Proof.Machine.execLdDRes6AtIYd s
  | .ldERes6AtIYd => Sys2Proof.Machine.execLdERes6AtIYd s
  | .ldHRes6AtIYd => Sys2Proof.Machine.execLdHRes6AtIYd s
  | .ldLRes6AtIYd => Sys2Proof.Machine.execLdLRes6AtIYd s
  | .res6AtIYd => Sys2Proof.Machine.execRes6AtIYd s
  | .ldARes6AtIYd => Sys2Proof.Machine.execLdARes6AtIYd s
  | .ldBRes7AtIYd => Sys2Proof.Machine.execLdBRes7AtIYd s
  | .ldCRes7AtIYd => Sys2Proof.Machine.execLdCRes7AtIYd s
  | .ldDRes7AtIYd => Sys2Proof.Machine.execLdDRes7AtIYd s
  | .ldERes7AtIYd => Sys2Proof.Machine.execLdERes7AtIYd s
  | .ldHRes7AtIYd => Sys2Proof.Machine.execLdHRes7AtIYd s
  | .ldLRes7AtIYd => Sys2Proof.Machine.execLdLRes7AtIYd s
  | .res7AtIYd => Sys2Proof.Machine.execRes7AtIYd s
  | .ldARes7AtIYd => Sys2Proof.Machine.execLdARes7AtIYd s
  | .ldBSet0AtIYd => Sys2Proof.Machine.execLdBSet0AtIYd s
  | .ldCSet0AtIYd => Sys2Proof.Machine.execLdCSet0AtIYd s
  | .ldDSet0AtIYd => Sys2Proof.Machine.execLdDSet0AtIYd s
  | .ldESet0AtIYd => Sys2Proof.Machine.execLdESet0AtIYd s
  | .ldHSet0AtIYd => Sys2Proof.Machine.execLdHSet0AtIYd s
  | .ldLSet0AtIYd => Sys2Proof.Machine.execLdLSet0AtIYd s
  | .set0AtIYd => Sys2Proof.Machine.execSet0AtIYd s
  | .ldASet0AtIYd => Sys2Proof.Machine.execLdASet0AtIYd s
  | .ldBSet1AtIYd => Sys2Proof.Machine.execLdBSet1AtIYd s
  | .ldCSet1AtIYd => Sys2Proof.Machine.execLdCSet1AtIYd s
  | .ldDSet1AtIYd => Sys2Proof.Machine.execLdDSet1AtIYd s
  | .ldESet1AtIYd => Sys2Proof.Machine.execLdESet1AtIYd s
  | .ldHSet1AtIYd => Sys2Proof.Machine.execLdHSet1AtIYd s
  | .ldLSet1AtIYd => Sys2Proof.Machine.execLdLSet1AtIYd s
  | .set1AtIYd => Sys2Proof.Machine.execSet1AtIYd s
  | .ldASet1AtIYd => Sys2Proof.Machine.execLdASet1AtIYd s
  | .ldBSet2AtIYd => Sys2Proof.Machine.execLdBSet2AtIYd s
  | .ldCSet2AtIYd => Sys2Proof.Machine.execLdCSet2AtIYd s
  | .ldDSet2AtIYd => Sys2Proof.Machine.execLdDSet2AtIYd s
  | .ldESet2AtIYd => Sys2Proof.Machine.execLdESet2AtIYd s
  | .ldHSet2AtIYd => Sys2Proof.Machine.execLdHSet2AtIYd s
  | .ldLSet2AtIYd => Sys2Proof.Machine.execLdLSet2AtIYd s
  | .set2AtIYd => Sys2Proof.Machine.execSet2AtIYd s
  | .ldASet2AtIYd => Sys2Proof.Machine.execLdASet2AtIYd s
  | .ldBSet3AtIYd => Sys2Proof.Machine.execLdBSet3AtIYd s
  | .ldCSet3AtIYd => Sys2Proof.Machine.execLdCSet3AtIYd s
  | .ldDSet3AtIYd => Sys2Proof.Machine.execLdDSet3AtIYd s
  | .ldESet3AtIYd => Sys2Proof.Machine.execLdESet3AtIYd s
  | .ldHSet3AtIYd => Sys2Proof.Machine.execLdHSet3AtIYd s
  | .ldLSet3AtIYd => Sys2Proof.Machine.execLdLSet3AtIYd s
  | .set3AtIYd => Sys2Proof.Machine.execSet3AtIYd s
  | .ldASet3AtIYd => Sys2Proof.Machine.execLdASet3AtIYd s
  | .ldBSet4AtIYd => Sys2Proof.Machine.execLdBSet4AtIYd s
  | .ldCSet4AtIYd => Sys2Proof.Machine.execLdCSet4AtIYd s
  | .ldDSet4AtIYd => Sys2Proof.Machine.execLdDSet4AtIYd s
  | .ldESet4AtIYd => Sys2Proof.Machine.execLdESet4AtIYd s
  | .ldHSet4AtIYd => Sys2Proof.Machine.execLdHSet4AtIYd s
  | .ldLSet4AtIYd => Sys2Proof.Machine.execLdLSet4AtIYd s
  | .set4AtIYd => Sys2Proof.Machine.execSet4AtIYd s
  | .ldASet4AtIYd => Sys2Proof.Machine.execLdASet4AtIYd s
  | .ldBSet5AtIYd => Sys2Proof.Machine.execLdBSet5AtIYd s
  | .ldCSet5AtIYd => Sys2Proof.Machine.execLdCSet5AtIYd s
  | .ldDSet5AtIYd => Sys2Proof.Machine.execLdDSet5AtIYd s
  | .ldESet5AtIYd => Sys2Proof.Machine.execLdESet5AtIYd s
  | .ldHSet5AtIYd => Sys2Proof.Machine.execLdHSet5AtIYd s
  | .ldLSet5AtIYd => Sys2Proof.Machine.execLdLSet5AtIYd s
  | .set5AtIYd => Sys2Proof.Machine.execSet5AtIYd s
  | .ldASet5AtIYd => Sys2Proof.Machine.execLdASet5AtIYd s
  | .ldBSet6AtIYd => Sys2Proof.Machine.execLdBSet6AtIYd s
  | .ldCSet6AtIYd => Sys2Proof.Machine.execLdCSet6AtIYd s
  | .ldDSet6AtIYd => Sys2Proof.Machine.execLdDSet6AtIYd s
  | .ldESet6AtIYd => Sys2Proof.Machine.execLdESet6AtIYd s
  | .ldHSet6AtIYd => Sys2Proof.Machine.execLdHSet6AtIYd s
  | .ldLSet6AtIYd => Sys2Proof.Machine.execLdLSet6AtIYd s
  | .set6AtIYd => Sys2Proof.Machine.execSet6AtIYd s
  | .ldASet6AtIYd => Sys2Proof.Machine.execLdASet6AtIYd s
  | .ldBSet7AtIYd => Sys2Proof.Machine.execLdBSet7AtIYd s
  | .ldCSet7AtIYd => Sys2Proof.Machine.execLdCSet7AtIYd s
  | .ldDSet7AtIYd => Sys2Proof.Machine.execLdDSet7AtIYd s
  | .ldESet7AtIYd => Sys2Proof.Machine.execLdESet7AtIYd s
  | .ldHSet7AtIYd => Sys2Proof.Machine.execLdHSet7AtIYd s
  | .ldLSet7AtIYd => Sys2Proof.Machine.execLdLSet7AtIYd s
  | .set7AtIYd => Sys2Proof.Machine.execSet7AtIYd s
  | .ldASet7AtIYd => Sys2Proof.Machine.execLdASet7AtIYd s

end Sys2Proof.Machine
end

