-- ==== Sys2Proof/Machine/Cycle.lean ====
section
/-! DEFINITION. The step: one service of a pending interrupt or one instruction, all of its prefixes included
(60_exceptions.md R500 to R512; 30_encoding.md R103; 47_ddfd.md R455). -/

namespace Sys2Proof.Machine

/-- The first value outside the counter's type `i64` (10_state.md R38, D24). -/
def counterLimit : Int := 9223372036854775808

/-- The precondition on the counter: R512 and D24. -/
def State.counterOk (s : State) : Bool := decide (0 ≤ s.cycles) && decide (s.cycles < counterLimit)

/-- The instruction, or the prefix, whose first byte is at `PC` (R27, R103). -/
def State.nextInstr (s : State) : Instr :=
  let pc := s.regs.pc
  decodeWindow (s.peek pc) (s.peek (pc + 1)) (s.peek (pc + 3))

/-- The effect of an instruction on the state, without a prefix's continuation. -/
def State.runPrefixes : Nat → State → Outcome
  | 0, _ => .refused .prefixChainTooLong
  | k + 1, s =>
    let i := s.nextInstr
    match exec i s with
    | .next t => if i.isPrefix then t.runPrefixes k else .next t
    | .fault e => .fault e
    | .refused e => .refused e

/-- How many fetches a step may make before its instruction is found (R455, U16; assumption 9). -/
def prefixBound : Nat := 65536

/-- `Execute(Fetch(), HL)` (R103): the instruction at `PC` with every prefix in front of it. -/
def State.runInstr (s : State) : Outcome := s.runPrefixes prefixBound

/-- A step in the halted state that accepts no interrupt: one opcode-fetch cycle at the `HALT` byte, `PC`
unmoved (R34, R509, D10; assumption 7). -/
def State.haltedCycle (s : State) : State := (s.contend s.regs.pc 4 1).refresh

/-- `eiJustExecuted <- false` (R501). -/
def State.clearShadow (s : State) : State := s.setCtl { s.ctl with eiJustExecuted := false }

/-- Whether the maskable request is taken, `shadow` being the latch as the step found it (R500, R503). -/
def State.takesInt (s : State) (shadow : Bool) : Bool :=
  s.ctl.interruptPending && s.ctl.iff1 && !shadow

/-- The step less its precondition: sample and clear the EI shadow, then NMI before maskable interrupt before
instruction (R500, R501, R503). -/
def State.serve (s : State) : Outcome :=
  let t := s.clearShadow
  if s.ctl.nmiPending then .next t.acceptNmi
  else if s.takesInt s.ctl.eiJustExecuted then .next t.acceptInt
  else if s.ctl.halted then .next t.haltedCycle
  else t.runInstr

/-- Refuse a step that would carry the counter out of `i64` (U3, D24; assumption 11). -/
def checkCounter (o : Outcome) : Outcome :=
  match o with
  | .next t => if t.cycles < counterLimit then .next t else .refused .counterOverflow
  | .fault e => .fault e
  | .refused e => .refused e

/-- `step()` (R500), refused where the counter is out of range at its start or its end (R512). -/
def State.cycle (s : State) : Outcome :=
  if s.counterOk then checkCounter s.serve else .refused .counterOutOfRange

/-- The four bytes of a table word: its own, low byte first, then zeros. -/
def wordBytes (nbits w : Nat) : List Byte := (List.range 4).map (tableByte (w % 2 ^ nbits))

/-- Put bytes into memory from an address on, wrapping, with no time and no trace, whatever the platform's
write policy: the load of a program from outside (assumption 4). -/
def State.load (s : State) (a : Word) : List Byte → State
  | [] => s
  | v :: vs => ({ s with mem := s.mem.write a.toNat v } : State).load (a + 1) vs

/-- The control cells with nothing that would make the next step do other than fetch. -/
def Control.running (c : Control) : Control :=
  { c with halted := false, interruptPending := false, nmiPending := false }

end Sys2Proof.Machine
end

