-- ==== Sys2Proof/Machine/Step.lean ====
section
/-! DEFINITION. The one transition of the CPU (00_scope.md R6, 60_exceptions.md R500). -/

namespace Sys2Proof.Machine

/-- One step. -/
def step (s : State) : Host.Outcome State Fault Refusal := s.cycle

/-- `s` with the instruction of a table word at `PC`, the CPU running and no request latched, so that the next
step fetches and runs it. Nothing else is changed (assumption 4). -/
def State.withFetchWord (s : State) (nbits w : Nat) : State :=
  (s.setCtl s.ctl.running).load s.regs.pc (wordBytes nbits w)

end Sys2Proof.Machine
end

