-- ==== Sys2Proof/Machine/HostCalls.lean ====
section
/-! DEFINITION. What the host and the external memory/IO subsystem may do between two steps (00_scope.md R6;
10_state.md R40; 60_exceptions.md R511; 70_reset_and_hazards.md R540). No step makes any of these calls
(assumption 23). -/

namespace Sys2Proof.Machine

/-- The registers the host reads and writes (R40). -/
inductive HostPair where
  | af | bc | de | hl | ix | iy | sp | pc | ir | memptr
  | afAlt | bcAlt | deAlt | hlAlt
  deriving DecidableEq, Repr

/-- The value of a register as the host reads it. -/
def State.readPair (s : State) (p : HostPair) : Word :=
  match p with
  | .af => s.reg16 .af
  | .bc => s.reg16 .bc
  | .de => s.reg16 .de
  | .hl => s.reg16 .hl
  | .ix => s.reg16 .ix
  | .iy => s.reg16 .iy
  | .sp => s.regs.sp
  | .pc => s.regs.pc
  | .ir => s.ir
  | .memptr => s.regs.memptr
  | .afAlt => mkWord s.shadow.a s.shadow.f
  | .bcAlt => mkWord s.shadow.b s.shadow.c
  | .deAlt => mkWord s.shadow.d s.shadow.e
  | .hlAlt => mkWord s.shadow.h s.shadow.l

/-- The host writes a register: the cell takes the value, with no side effect (R40). -/
def State.writePair (s : State) (p : HostPair) (w : Word) : State :=
  match p with
  | .af => s.setReg16 .af w
  | .bc => s.setReg16 .bc w
  | .de => s.setReg16 .de w
  | .hl => s.setReg16 .hl w
  | .ix => s.setReg16 .ix w
  | .iy => s.setReg16 .iy w
  | .sp => s.setSp w
  | .pc => s.setPc w
  | .ir => { s with regs := { s.regs with i := hiByte w, r := loByte w } }
  | .memptr => s.setMemptr w
  | .afAlt => { s with shadow := { s.shadow with a := hiByte w, f := loByte w } }
  | .bcAlt => { s with shadow := { s.shadow with b := hiByte w, c := loByte w } }
  | .deAlt => { s with shadow := { s.shadow with d := hiByte w, e := loByte w } }
  | .hlAlt => { s with shadow := { s.shadow with h := hiByte w, l := loByte w } }

/-- `restart()`: every cell of R41 at its reset value; memory, ports, the contention table and the counter are
not touched (R540). -/
def State.restart (s : State) : State :=
  { s with
    regs := Regs.filled s.platform.resetFill
    shadow := Shadow.filled s.platform.resetFill
    ctl := Control.afterReset }

/-- The counter folded modulo the frame length (R6, R67; assumption 8). -/
def State.foldCycles (s : State) : State :=
  if s.platform.frameLength = 0 then s else { s with cycles := s.cycles % s.platform.frameLength }

/-- The value 0, 1 or 2 as a mode. -/
def IntMode.ofNat? : Nat → Option IntMode
  | 0 => some .im0
  | 1 => some .im1
  | 2 => some .im2
  | _ => none

/-- The calls. -/
inductive HostCall where
  /-- `interrupt()` (R35, R511). -/
  | interrupt
  /-- `nmi()` (R36, R511). -/
  | nmi
  /-- `restart()` (R540). -/
  | restart
  /-- Write a register. -/
  | writePair (p : HostPair) (w : Word)
  /-- Write bits 15:8 of a register (R21, R40). -/
  | writeHigh (p : HostPair) (v : Byte)
  /-- Write bits 7:0 of a register (R21, R40). -/
  | writeLow (p : HostPair) (v : Byte)
  /-- Write `halted`. -/
  | writeHalted (b : Bool)
  /-- Write `iff1`. -/
  | writeIff1 (b : Bool)
  /-- Write `iff2`. -/
  | writeIff2 (b : Bool)
  /-- Write `interruptMode`. -/
  | writeMode (m : Nat)
  /-- Replace the counter (R38). -/
  | writeCycles (c : Int)
  /-- Fold the counter (R67). -/
  | foldCycles
  /-- Rebuild the contention table and the contended ranges (R6, R67). -/
  | rebuildContention (contended : List AddrRange) (table : List Nat) (rest : Option Nat)
  /-- The external subsystem presents another byte at an address from now on: a host `poke`, a bank switch
  (R76). DESIGN CHOICE (assumption 10): this changes bytes alone; whether a bank switch also changes which
  addresses ignore stores is the platform's, which then makes the call `protect` as well. -/
  | present (addr : Word) (v : Byte)
  /-- The external subsystem ignores stores in these ranges from now on: another write policy (P3; DESIGN CHOICE,
  assumption 10). -/
  | protect (readOnly : List AddrRange)
  /-- The external subsystem queues answers to the next port reads (P4, R68). -/
  | answerPorts (vs : List Byte)
  deriving DecidableEq, Repr

/-- A host call. The only one refused writes a mode outside 0, 1, 2 (R33, U14). -/
def hostCall (c : HostCall) (s : State) : Outcome :=
  match c with
  | .interrupt => .next (s.setCtl { s.ctl with interruptPending := true })
  | .nmi => .next (s.setCtl { s.ctl with nmiPending := true })
  | .restart => .next s.restart
  | .writePair p w => .next (s.writePair p w)
  | .writeHigh p v => .next (s.writePair p (mkWord v (loByte (s.readPair p))))
  | .writeLow p v => .next (s.writePair p (mkWord (hiByte (s.readPair p)) v))
  | .writeHalted b => .next (s.setCtl { s.ctl with halted := b })
  | .writeIff1 b => .next (s.setCtl { s.ctl with iff1 := b })
  | .writeIff2 b => .next (s.setCtl { s.ctl with iff2 := b })
  | .writeMode m =>
    match IntMode.ofNat? m with
    | some v => .next (s.setCtl { s.ctl with interruptMode := v })
    | none => .refused .badInterruptMode
  | .writeCycles c => .next { s with cycles := c }
  | .foldCycles => .next s.foldCycles
  | .rebuildContention ranges table rest =>
    .next { s with
      platform := { s.platform with contended := ranges, contentionTable := table, contentionRest := rest } }
  | .present a v => .next { s with mem := s.mem.write a.toNat v }
  | .protect ranges => .next { s with platform := { s.platform with readOnly := ranges } }
  | .answerPorts vs => .next { s with portAnswers := s.portAnswers ++ vs }

end Sys2Proof.Machine
end

