-- ==== Sys2Proof/Safety.lean ====
section
/-! DEFINITION. What a safe run is, and the terms that statements about one instruction are made in: its effect,
written as the registers it leaves and the bus cycles it makes in order. -/

namespace Sys2Proof.Machine

/-! ## Safe states -/

/-- The invariant of the model: memory in its canonical form, the counter inside `i64` and not negative. -/
def State.Inv (s : State) : Prop := s.mem.wf = true ∧ s.counterOk = true

/-- When an access happened. -/
def BusEvent.time : BusEvent → Int
  | .memRead _ _ c => c
  | .memWrite _ _ c => c
  | .portRead _ _ c => c
  | .portWrite _ _ c => c

/-- The accesses are listed latest first, none of them later than the counter. -/
def State.TraceOrdered (s : State) : Prop :=
  (s.bus.map BusEvent.time).Pairwise (fun later earlier => earlier ≤ later) ∧
    ∀ e ∈ s.bus, e.time ≤ s.cycles

/-- Nothing is contended (00_scope.md R12, P1, P11). -/
def State.Uncontended (s : State) : Prop :=
  s.platform.contended = [] ∧ s.platform.ulaPortContended = false

/-! ## Bus cycles (00_scope.md R11, R12) -/

/-- One bus cycle as the pseudocode of the rules names them. -/
inductive BusCycle where
  /-- `Fetch()`: `Contend(addr, 4, 1)` and an untimed byte (R100). -/
  | fetch (addr : Word)
  /-- `Contend(addr, 1, units)` (R66). -/
  | wait (addr : Word) (units : Nat)
  /-- `MemRead(addr, 1)` (R63). -/
  | read (addr : Word) (value : Byte)
  /-- `MemWrite(addr, 1, value)` (R64). -/
  | write (addr : Word) (value : Byte)
  /-- `IoRead(port)` (R68). -/
  | portIn (port : Word) (value : Byte)
  /-- `IoWrite(port, value)` (R69). -/
  | portOut (port : Word) (value : Byte)
  /-- The fixed cost of an acceptance (R504, R506). -/
  | ack (tstates : Nat)
  deriving DecidableEq, Repr

/-- The counter after the cycle, entered at `c`. -/
def BusCycle.after (p : Platform) (c : Int) : BusCycle → Int
  | .fetch a => p.afterContend a 4 1 c
  | .wait a n => p.afterContend a 1 n c
  | .read a _ => p.afterContend a 3 1 c
  | .write a _ => p.afterContend a 3 1 c
  | .portIn q _ => p.afterPort q c
  | .portOut q _ => p.afterPort q c
  | .ack n => c + n

/-- What the cycle, ended at `c`, adds in front of the recorded accesses. -/
def BusCycle.noted (c : Int) (before : List BusEvent) : BusCycle → List BusEvent
  | .fetch _ => before
  | .wait _ _ => before
  | .read a v => .memRead a v c :: before
  | .write a v => .memWrite a v c :: before
  | .portIn q v => .portRead q v c :: before
  | .portOut q v => .portWrite q v c :: before
  | .ack _ => before

/-- The counter after a sequence of cycles: contention is looked up at the counter each is entered with. -/
def busTime (p : Platform) : List BusCycle → Int → Int
  | [], c => c
  | b :: bs, c => busTime p bs (b.after p c)

/-- The accesses recorded after a sequence of cycles. -/
def busTrace (p : Platform) : List BusCycle → Int → List BusEvent → List BusEvent
  | [], _, before => before
  | b :: bs, c, before => busTrace p bs (b.after p c) (b.noted (b.after p c) before)

/-- The bytes that a sequence of cycles stores. -/
def storedBytes : List BusCycle → List (Word × Byte)
  | [] => []
  | .write a v :: bs => (a, v) :: storedBytes bs
  | .fetch _ :: bs => storedBytes bs
  | .wait _ _ :: bs => storedBytes bs
  | .read _ _ :: bs => storedBytes bs
  | .portIn _ _ :: bs => storedBytes bs
  | .portOut _ _ :: bs => storedBytes bs
  | .ack _ :: bs => storedBytes bs

/-- How many port bytes a sequence of cycles takes. -/
def portsRead : List BusCycle → Nat
  | [] => 0
  | .portIn _ _ :: bs => portsRead bs + 1
  | .fetch _ :: bs => portsRead bs
  | .wait _ _ :: bs => portsRead bs
  | .read _ _ :: bs => portsRead bs
  | .write _ _ :: bs => portsRead bs
  | .portOut _ _ :: bs => portsRead bs
  | .ack _ :: bs => portsRead bs

/-! ## What one instruction did -/

/-- The bytes stored: outside their addresses every byte reads as before. A stored byte reads back, but at an
address where the platform ignores stores, which reads as before (20_memory.md R64, P3). -/
def State.Stores (s t : State) (ws : List (Word × Byte)) : Prop :=
  (∀ a, a ∉ ws.map Prod.fst → t.peek a = s.peek a) ∧
    (∀ w ∈ ws, s.platform.isReadOnly w.1 = false → t.peek w.1 = w.2) ∧
    ∀ a, s.platform.isReadOnly a = true → t.peek a = s.peek a

/-- An effect: everything a step may change. -/
structure Effect where
  /-- All the registers afterwards. -/
  regs : Regs
  /-- The shadow bank afterwards. -/
  shadow : Shadow
  /-- The control cells afterwards. -/
  ctl : Control
  /-- The bus cycles made, in order. -/
  bus : List BusCycle
  /-- The T-states taken when nothing is contended (R12). -/
  tstates : Int

/-- `t` is `s` after the effect, and nothing else differs. -/
structure Effect.Of (e : Effect) (s t : State) : Prop where
  regs : t.regs = e.regs
  shadow : t.shadow = e.shadow
  ctl : t.ctl = e.ctl
  /-- Every byte of memory, for a memory in its canonical form. -/
  mem : s.mem.wf = true → s.Stores t (storedBytes e.bus)
  cycles : t.cycles = busTime s.platform e.bus s.cycles
  tstates : s.Uncontended → t.cycles = s.cycles + e.tstates
  trace : t.bus = busTrace s.platform e.bus s.cycles s.bus
  answers : t.portAnswers = s.portAnswers.drop (portsRead e.bus)
  reads : t.portReads = s.portReads + portsRead e.bus
  platform : t.platform = s.platform

/-- The instruction completes, and with exactly this effect. -/
def State.Ran (s : State) (i : Instr) (e : Effect) : Prop := ∃ t, exec i s = .next t ∧ e.Of s t

/-- An effect that leaves the shadow bank and the control cells alone. -/
def State.does (s : State) (g : Regs) (bus : List BusCycle) (tstates : Int) : Effect where
  regs := g
  shadow := s.shadow
  ctl := s.ctl
  bus := bus
  tstates := tstates

/-! ## Shorthands for effects -/

/-- The registers after `fetches` opcode fetches and `operands` operand bytes: `PC` past them, one increment of
`R` for each fetch (30_encoding.md R100, R101, R108). -/
def Regs.past (g : Regs) (fetches operands : Nat) : Regs :=
  { g with
    pc := g.pc + BitVec.ofNat 16 (fetches + operands)
    r := Nat.iterate nextR fetches g.r }

/-- A jump: `PC` and `MEMPTR` take the address. -/
def Regs.jump (g : Regs) (addr : Word) : Regs := { g with pc := addr, memptr := addr }

/-- The accumulator and the flags take the output of an operation. -/
def Regs.takes (g : Regs) (o : AluOut) : Regs := { g with a := o.res, f := o.flags }

/-- The pair `IR` (10_state.md R20). -/
def Regs.ir (g : Regs) : Word := mkWord g.i g.r

/-- The address `PC + k`. -/
def State.codeAddr (s : State) (k : Nat) : Word := s.regs.pc + BitVec.ofNat 16 k

/-- The program byte at `PC + k`. -/
def State.codeByte (s : State) (k : Nat) : Byte := s.peek (s.codeAddr k)

/-- The program word at `PC + k`, low byte first. -/
def State.codeWord (s : State) (k : Nat) : Word := mkWord (s.codeByte (k + 1)) (s.codeByte k)

/-- A read of what memory holds. -/
def State.rd (s : State) (a : Word) : BusCycle := .read a (s.peek a)

/-- The bus cycles that take an instruction's bytes: so many fetches, then so many operand bytes. -/
def State.code (s : State) (fetches operands : Nat) : List BusCycle :=
  (List.range fetches).map (fun k => .fetch (s.codeAddr k)) ++
    (List.range operands).map (fun k => s.rd (s.codeAddr (fetches + k)))

/-- A wait at the address `IR`, after `fetches` fetches have counted in `R` (00_scope.md R12). -/
def State.irWait (s : State) (fetches units : Nat) : BusCycle := .wait (s.regs.past fetches 0).ir units

/-- `MemRead(a, 2)` (R65), which are also the two reads of `Pop16()` at `a` (R181). -/
def State.rd16 (s : State) (a : Word) : List BusCycle := [s.rd a, s.rd (a + 1)]

/-- `MemWrite(a, 2, w)`, low byte first (R65). -/
def wr16 (a w : Word) : List BusCycle := [.write a (loByte w), .write (a + 1) (hiByte w)]

/-- The two writes of `Push16(w)` entered with stack pointer `sp`, high byte first (R180). -/
def pushed (sp w : Word) : List BusCycle := [.write (sp - 1) (hiByte w), .write (sp - 2) (loByte w)]

/-- Read a byte, wait, write it back changed (R239, R330). -/
def State.readModifyWrite (s : State) (a : Word) (units : Nat) (v : Byte) : List BusCycle :=
  [s.rd a, .wait a units, .write a v]

/-- `r8[i]` with the halves of the index register for `H` and `L` (47_ddfd.md section 3). -/
def r8x (ii : Idx) (i : Nat) : Option Reg8 :=
  match i, ii with
  | 4, .ix => some .ixh
  | 5, .ix => some .ixl
  | 4, .iy => some .iyh
  | 5, .iy => some .iyl
  | _, _ => r8 i

/-- `rp[p]` with the index register for `HL` (R105). -/
def rpx (ii : Idx) (p : Nat) : Reg16 := if p = 2 then idxReg ii else rp p

/-- The table of the opcodes behind an index prefix (R114). -/
def idxTable (ii : Idx) (op : Byte) : Instr :=
  match ii with
  | .ix => ddTable op
  | .iy => fdTable op

/-- The table of the last bytes behind an index prefix, `CB` and a displacement (R115). -/
def idxCbTable (ii : Idx) (op : Byte) : Instr :=
  match ii with
  | .ix => ddcbTable op
  | .iy => fdcbTable op

/-- `ii + sext_16(d)` for a displacement byte two behind `PC` (R431). -/
def State.idxAddr (s : State) (ii : Idx) : Word := s.regs.get16 (idxReg ii) + signExt (s.codeByte 2)

/-- `RelJump(taken)` (43_base_control.md section 3), `g` and `bus` being the registers and the cycles up to and
including the displacement byte behind `PC`, and `n` the T-states of the jump not taken. -/
def State.branch (s : State) (taken : Bool) (g : Regs) (bus : List BusCycle) (n : Int) : Effect :=
  if taken then
    s.does (g.jump (s.codeAddr 2 + signExt (s.codeByte 1))) (bus ++ [.wait (s.codeAddr 1) 5]) (n + 5)
  else s.does g bus n

/-- A repeating block instruction whose condition is unmet goes back to its first byte, five waits later
(46_ed_block.md R416). -/
def State.loop (s : State) (again : Bool) (g : Regs) (bus : List BusCycle) (addr : Word) : Effect :=
  if again then
    s.does { g with pc := s.regs.pc, memptr := s.regs.pc + 1 } (bus ++ [.wait addr 5]) 21
  else s.does g bus 16

/-- The direction of the block instructions `bli[y][z]` (R113). -/
def blockDir (y : Nat) : Dir := if y % 2 = 0 then .up else .down

/-- Whether an opcode behind `DD` or `FD` is in one of the lists M, P and H of R114. -/
def inIndexLists (x y z : Nat) : Bool :=
  (x == 0 && ((y / 2 == 2 && (z == 1 || z == 2 || z == 3)) || (y % 2 == 1 && z == 1) ||
    (4 ≤ y && y ≤ 6 && (z == 4 || z == 5 || z == 6)))) ||
  (x == 1 && !(y == 6 && z == 6) && ((4 ≤ y && y ≤ 6) || (4 ≤ z && z ≤ 6))) ||
  (x == 2 && 4 ≤ z && z ≤ 6) ||
  (x == 3 && ((y == 4 && (z == 1 || z == 3 || z == 5)) || (y == 5 && z == 1) || (y == 7 && z == 1)))

/-- The flags register with these bits, from bit 7 to bit 0 (10_state.md R23). -/
def flagsOf (s z b5 h b3 pv n c : Bool) : Byte :=
  maskIf s flagS ||| maskIf z flagZ ||| maskIf b5 flag5 ||| maskIf h flagH ||| maskIf b3 flag3 |||
    maskIf pv flagPV ||| maskIf n flagN ||| maskIf c flagC

/-- A carry as a number. -/
def bitNat (c : Bool) : Nat := if c then 1 else 0

/-- The value does not fit in `w` bits as a two's-complement number. -/
def overflows (w : Nat) (v : Int) : Bool := decide (v < -2 ^ (w - 1)) || decide (2 ^ (w - 1) ≤ v)

end Sys2Proof.Machine
end

