-- ==== Sys2Proof/WellFormed.lean ====
section
/-! DEFINITION. Well-formed instructions: the fields take the values that some encoding gives them. -/

namespace Sys2Proof

/-- The second bytes of the ED no-ops: all of x = 0 and x = 3, `77`, `7F`, and x = 2 less the sixteen block
instructions (45_ed.md R368). -/
def isEdNop (op : Byte) : Bool :=
  op.toNat < 0x40 || 0xC0 ≤ op.toNat || op == 0x77 || op == 0x7F ||
    (0x80 ≤ op.toNat && op.toNat < 0xC0 && !(0xA0 ≤ op.toNat && op.toNat % 8 < 4))

/-- Whether some encoding gives the instruction. The fields that matter are the opcode bits of encodings
with one meaning: `RETN` has no `y = 1`, which is `RETI` (R359, R360), and `IM m` has the `y` of R361. -/
def Instr.wellFormed (i : Instr) : Bool :=
  match i with
  | .nopEd op => isEdNop op
  | .neg _ => true
  | .retn y => y != 1
  | .im0 y => y == 0 || y == 1 || y == 4 || y == 5
  | .im1 y => y == 2 || y == 6
  | .im2 y => y == 3 || y == 7
  | .nopPfx _ => true
  | .ldBCImm16Pfx _ => true
  | .ldAtBCAPfx _ => true
  | .incBCPfx _ => true
  | .incBPfx _ => true
  | .decBPfx _ => true
  | .ldBImmPfx _ => true
  | .rlcaPfx _ => true
  | .exAFAFAltPfx _ => true
  | .ldAAtBCPfx _ => true
  | .decBCPfx _ => true
  | .incCPfx _ => true
  | .decCPfx _ => true
  | .ldCImmPfx _ => true
  | .rrcaPfx _ => true
  | .djnzRelPfx _ => true
  | .ldDEImm16Pfx _ => true
  | .ldAtDEAPfx _ => true
  | .incDEPfx _ => true
  | .incDPfx _ => true
  | .decDPfx _ => true
  | .ldDImmPfx _ => true
  | .rlaPfx _ => true
  | .jrRelPfx _ => true
  | .ldAAtDEPfx _ => true
  | .decDEPfx _ => true
  | .incEPfx _ => true
  | .decEPfx _ => true
  | .ldEImmPfx _ => true
  | .rraPfx _ => true
  | .jrNZRelPfx _ => true
  | .daaPfx _ => true
  | .jrZRelPfx _ => true
  | .cplPfx _ => true
  | .jrNCRelPfx _ => true
  | .ldSPImm16Pfx _ => true
  | .ldAtAbsAPfx _ => true
  | .incSPPfx _ => true
  | .scfPfx _ => true
  | .jrCRelPfx _ => true
  | .ldAAtAbsPfx _ => true
  | .decSPPfx _ => true
  | .incAPfx _ => true
  | .decAPfx _ => true
  | .ldAImmPfx _ => true
  | .ccfPfx _ => true
  | .ldBBPfx _ => true
  | .ldBCPfx _ => true
  | .ldBDPfx _ => true
  | .ldBEPfx _ => true
  | .ldBAPfx _ => true
  | .ldCBPfx _ => true
  | .ldCCPfx _ => true
  | .ldCDPfx _ => true
  | .ldCEPfx _ => true
  | .ldCAPfx _ => true
  | .ldDBPfx _ => true
  | .ldDCPfx _ => true
  | .ldDDPfx _ => true
  | .ldDEPfx _ => true
  | .ldDAPfx _ => true
  | .ldEBPfx _ => true
  | .ldECPfx _ => true
  | .ldEDPfx _ => true
  | .ldEEPfx _ => true
  | .ldEAPfx _ => true
  | .haltPfx _ => true
  | .ldABPfx _ => true
  | .ldACPfx _ => true
  | .ldADPfx _ => true
  | .ldAEPfx _ => true
  | .ldAAPfx _ => true
  | .addABPfx _ => true
  | .addACPfx _ => true
  | .addADPfx _ => true
  | .addAEPfx _ => true
  | .addAAPfx _ => true
  | .adcABPfx _ => true
  | .adcACPfx _ => true
  | .adcADPfx _ => true
  | .adcAEPfx _ => true
  | .adcAAPfx _ => true
  | .subBPfx _ => true
  | .subCPfx _ => true
  | .subDPfx _ => true
  | .subEPfx _ => true
  | .subAPfx _ => true
  | .sbcABPfx _ => true
  | .sbcACPfx _ => true
  | .sbcADPfx _ => true
  | .sbcAEPfx _ => true
  | .sbcAAPfx _ => true
  | .andBPfx _ => true
  | .andCPfx _ => true
  | .andDPfx _ => true
  | .andEPfx _ => true
  | .andAPfx _ => true
  | .xorBPfx _ => true
  | .xorCPfx _ => true
  | .xorDPfx _ => true
  | .xorEPfx _ => true
  | .xorAPfx _ => true
  | .orBPfx _ => true
  | .orCPfx _ => true
  | .orDPfx _ => true
  | .orEPfx _ => true
  | .orAPfx _ => true
  | .cpBPfx _ => true
  | .cpCPfx _ => true
  | .cpDPfx _ => true
  | .cpEPfx _ => true
  | .cpAPfx _ => true
  | .retNZPfx _ => true
  | .popBCPfx _ => true
  | .jpNZImm16Pfx _ => true
  | .jpImm16Pfx _ => true
  | .callNZImm16Pfx _ => true
  | .pushBCPfx _ => true
  | .addAImmPfx _ => true
  | .rst00Pfx _ => true
  | .retZPfx _ => true
  | .retPfx _ => true
  | .jpZImm16Pfx _ => true
  | .callZImm16Pfx _ => true
  | .callImm16Pfx _ => true
  | .adcAImmPfx _ => true
  | .rst08Pfx _ => true
  | .retNCPfx _ => true
  | .popDEPfx _ => true
  | .jpNCImm16Pfx _ => true
  | .outAtImmAPfx _ => true
  | .callNCImm16Pfx _ => true
  | .pushDEPfx _ => true
  | .subImmPfx _ => true
  | .rst10Pfx _ => true
  | .retCPfx _ => true
  | .exxPfx _ => true
  | .jpCImm16Pfx _ => true
  | .inAAtImmPfx _ => true
  | .callCImm16Pfx _ => true
  | .prefixDDChain _ => true
  | .sbcAImmPfx _ => true
  | .rst18Pfx _ => true
  | .retPOPfx _ => true
  | .jpPOImm16Pfx _ => true
  | .callPOImm16Pfx _ => true
  | .andImmPfx _ => true
  | .rst20Pfx _ => true
  | .retPEPfx _ => true
  | .jpPEImm16Pfx _ => true
  | .exDEHLPfx _ => true
  | .callPEImm16Pfx _ => true
  | .prefixEDPfx _ => true
  | .xorImmPfx _ => true
  | .rst28Pfx _ => true
  | .retPPfx _ => true
  | .popAFPfx _ => true
  | .jpPImm16Pfx _ => true
  | .diPfx _ => true
  | .callPImm16Pfx _ => true
  | .pushAFPfx _ => true
  | .orImmPfx _ => true
  | .rst30Pfx _ => true
  | .retMPfx _ => true
  | .jpMImm16Pfx _ => true
  | .eiPfx _ => true
  | .callMImm16Pfx _ => true
  | .prefixFDChain _ => true
  | .cpImmPfx _ => true
  | .rst38Pfx _ => true
  | .bit0AtIXd _ => true
  | .bit1AtIXd _ => true
  | .bit2AtIXd _ => true
  | .bit3AtIXd _ => true
  | .bit4AtIXd _ => true
  | .bit5AtIXd _ => true
  | .bit6AtIXd _ => true
  | .bit7AtIXd _ => true
  | .bit0AtIYd _ => true
  | .bit1AtIYd _ => true
  | .bit2AtIYd _ => true
  | .bit3AtIYd _ => true
  | .bit4AtIYd _ => true
  | .bit5AtIYd _ => true
  | .bit6AtIYd _ => true
  | .bit7AtIYd _ => true
  | .nop => true
  | .ldBCImm16 => true
  | .ldAtBCA => true
  | .incBC => true
  | .incB => true
  | .decB => true
  | .ldBImm => true
  | .rlca => true
  | .exAFAFAlt => true
  | .addHLBC => true
  | .ldAAtBC => true
  | .decBC => true
  | .incC => true
  | .decC => true
  | .ldCImm => true
  | .rrca => true
  | .djnzRel => true
  | .ldDEImm16 => true
  | .ldAtDEA => true
  | .incDE => true
  | .incD => true
  | .decD => true
  | .ldDImm => true
  | .rla => true
  | .jrRel => true
  | .addHLDE => true
  | .ldAAtDE => true
  | .decDE => true
  | .incE => true
  | .decE => true
  | .ldEImm => true
  | .rra => true
  | .jrNZRel => true
  | .ldHLImm16 => true
  | .ldAtAbsHL => true
  | .incHL => true
  | .incH => true
  | .decH => true
  | .ldHImm => true
  | .daa => true
  | .jrZRel => true
  | .addHLHL => true
  | .ldHLAtAbs => true
  | .decHL => true
  | .incL => true
  | .decL => true
  | .ldLImm => true
  | .cpl => true
  | .jrNCRel => true
  | .ldSPImm16 => true
  | .ldAtAbsA => true
  | .incSP => true
  | .incAtHL => true
  | .decAtHL => true
  | .ldAtHLImm => true
  | .scf => true
  | .jrCRel => true
  | .addHLSP => true
  | .ldAAtAbs => true
  | .decSP => true
  | .incA => true
  | .decA => true
  | .ldAImm => true
  | .ccf => true
  | .ldBB => true
  | .ldBC => true
  | .ldBD => true
  | .ldBE => true
  | .ldBH => true
  | .ldBL => true
  | .ldBAtHL => true
  | .ldBA => true
  | .ldCB => true
  | .ldCC => true
  | .ldCD => true
  | .ldCE => true
  | .ldCH => true
  | .ldCL => true
  | .ldCAtHL => true
  | .ldCA => true
  | .ldDB => true
  | .ldDC => true
  | .ldDD => true
  | .ldDE => true
  | .ldDH => true
  | .ldDL => true
  | .ldDAtHL => true
  | .ldDA => true
  | .ldEB => true
  | .ldEC => true
  | .ldED => true
  | .ldEE => true
  | .ldEH => true
  | .ldEL => true
  | .ldEAtHL => true
  | .ldEA => true
  | .ldHB => true
  | .ldHC => true
  | .ldHD => true
  | .ldHE => true
  | .ldHH => true
  | .ldHL => true
  | .ldHAtHL => true
  | .ldHA => true
  | .ldLB => true
  | .ldLC => true
  | .ldLD => true
  | .ldLE => true
  | .ldLH => true
  | .ldLL => true
  | .ldLAtHL => true
  | .ldLA => true
  | .ldAtHLB => true
  | .ldAtHLC => true
  | .ldAtHLD => true
  | .ldAtHLE => true
  | .ldAtHLH => true
  | .ldAtHLL => true
  | .halt => true
  | .ldAtHLA => true
  | .ldAB => true
  | .ldAC => true
  | .ldAD => true
  | .ldAE => true
  | .ldAH => true
  | .ldAL => true
  | .ldAAtHL => true
  | .ldAA => true
  | .addAB => true
  | .addAC => true
  | .addAD => true
  | .addAE => true
  | .addAH => true
  | .addAL => true
  | .addAAtHL => true
  | .addAA => true
  | .adcAB => true
  | .adcAC => true
  | .adcAD => true
  | .adcAE => true
  | .adcAH => true
  | .adcAL => true
  | .adcAAtHL => true
  | .adcAA => true
  | .subB => true
  | .subC => true
  | .subD => true
  | .subE => true
  | .subH => true
  | .subL => true
  | .subAtHL => true
  | .subA => true
  | .sbcAB => true
  | .sbcAC => true
  | .sbcAD => true
  | .sbcAE => true
  | .sbcAH => true
  | .sbcAL => true
  | .sbcAAtHL => true
  | .sbcAA => true
  | .andB => true
  | .andC => true
  | .andD => true
  | .andE => true
  | .andH => true
  | .andL => true
  | .andAtHL => true
  | .andA => true
  | .xorB => true
  | .xorC => true
  | .xorD => true
  | .xorE => true
  | .xorH => true
  | .xorL => true
  | .xorAtHL => true
  | .xorA => true
  | .orB => true
  | .orC => true
  | .orD => true
  | .orE => true
  | .orH => true
  | .orL => true
  | .orAtHL => true
  | .orA => true
  | .cpB => true
  | .cpC => true
  | .cpD => true
  | .cpE => true
  | .cpH => true
  | .cpL => true
  | .cpAtHL => true
  | .cpA => true
  | .retNZ => true
  | .popBC => true
  | .jpNZImm16 => true
  | .jpImm16 => true
  | .callNZImm16 => true
  | .pushBC => true
  | .addAImm => true
  | .rst00 => true
  | .retZ => true
  | .ret => true
  | .jpZImm16 => true
  | .prefixCB => true
  | .callZImm16 => true
  | .callImm16 => true
  | .adcAImm => true
  | .rst08 => true
  | .retNC => true
  | .popDE => true
  | .jpNCImm16 => true
  | .outAtImmA => true
  | .callNCImm16 => true
  | .pushDE => true
  | .subImm => true
  | .rst10 => true
  | .retC => true
  | .exx => true
  | .jpCImm16 => true
  | .inAAtImm => true
  | .callCImm16 => true
  | .prefixDD => true
  | .sbcAImm => true
  | .rst18 => true
  | .retPO => true
  | .popHL => true
  | .jpPOImm16 => true
  | .exAtSPHL => true
  | .callPOImm16 => true
  | .pushHL => true
  | .andImm => true
  | .rst20 => true
  | .retPE => true
  | .jpAtHL => true
  | .jpPEImm16 => true
  | .exDEHL => true
  | .callPEImm16 => true
  | .prefixED => true
  | .xorImm => true
  | .rst28 => true
  | .retP => true
  | .popAF => true
  | .jpPImm16 => true
  | .di => true
  | .callPImm16 => true
  | .pushAF => true
  | .orImm => true
  | .rst30 => true
  | .retM => true
  | .ldSPHL => true
  | .jpMImm16 => true
  | .ei => true
  | .callMImm16 => true
  | .prefixFD => true
  | .cpImm => true
  | .rst38 => true
  | .rlcB => true
  | .rlcC => true
  | .rlcD => true
  | .rlcE => true
  | .rlcH => true
  | .rlcL => true
  | .rlcAtHL => true
  | .rlcA => true
  | .rrcB => true
  | .rrcC => true
  | .rrcD => true
  | .rrcE => true
  | .rrcH => true
  | .rrcL => true
  | .rrcAtHL => true
  | .rrcA => true
  | .rlB => true
  | .rlC => true
  | .rlD => true
  | .rlE => true
  | .rlH => true
  | .rlL => true
  | .rlAtHL => true
  | .rlA => true
  | .rrB => true
  | .rrC => true
  | .rrD => true
  | .rrE => true
  | .rrH => true
  | .rrL => true
  | .rrAtHL => true
  | .rrA => true
  | .slaB => true
  | .slaC => true
  | .slaD => true
  | .slaE => true
  | .slaH => true
  | .slaL => true
  | .slaAtHL => true
  | .slaA => true
  | .sraB => true
  | .sraC => true
  | .sraD => true
  | .sraE => true
  | .sraH => true
  | .sraL => true
  | .sraAtHL => true
  | .sraA => true
  | .sllB => true
  | .sllC => true
  | .sllD => true
  | .sllE => true
  | .sllH => true
  | .sllL => true
  | .sllAtHL => true
  | .sllA => true
  | .srlB => true
  | .srlC => true
  | .srlD => true
  | .srlE => true
  | .srlH => true
  | .srlL => true
  | .srlAtHL => true
  | .srlA => true
  | .bit0B => true
  | .bit0C => true
  | .bit0D => true
  | .bit0E => true
  | .bit0H => true
  | .bit0L => true
  | .bit0AtHL => true
  | .bit0A => true
  | .bit1B => true
  | .bit1C => true
  | .bit1D => true
  | .bit1E => true
  | .bit1H => true
  | .bit1L => true
  | .bit1AtHL => true
  | .bit1A => true
  | .bit2B => true
  | .bit2C => true
  | .bit2D => true
  | .bit2E => true
  | .bit2H => true
  | .bit2L => true
  | .bit2AtHL => true
  | .bit2A => true
  | .bit3B => true
  | .bit3C => true
  | .bit3D => true
  | .bit3E => true
  | .bit3H => true
  | .bit3L => true
  | .bit3AtHL => true
  | .bit3A => true
  | .bit4B => true
  | .bit4C => true
  | .bit4D => true
  | .bit4E => true
  | .bit4H => true
  | .bit4L => true
  | .bit4AtHL => true
  | .bit4A => true
  | .bit5B => true
  | .bit5C => true
  | .bit5D => true
  | .bit5E => true
  | .bit5H => true
  | .bit5L => true
  | .bit5AtHL => true
  | .bit5A => true
  | .bit6B => true
  | .bit6C => true
  | .bit6D => true
  | .bit6E => true
  | .bit6H => true
  | .bit6L => true
  | .bit6AtHL => true
  | .bit6A => true
  | .bit7B => true
  | .bit7C => true
  | .bit7D => true
  | .bit7E => true
  | .bit7H => true
  | .bit7L => true
  | .bit7AtHL => true
  | .bit7A => true
  | .res0B => true
  | .res0C => true
  | .res0D => true
  | .res0E => true
  | .res0H => true
  | .res0L => true
  | .res0AtHL => true
  | .res0A => true
  | .res1B => true
  | .res1C => true
  | .res1D => true
  | .res1E => true
  | .res1H => true
  | .res1L => true
  | .res1AtHL => true
  | .res1A => true
  | .res2B => true
  | .res2C => true
  | .res2D => true
  | .res2E => true
  | .res2H => true
  | .res2L => true
  | .res2AtHL => true
  | .res2A => true
  | .res3B => true
  | .res3C => true
  | .res3D => true
  | .res3E => true
  | .res3H => true
  | .res3L => true
  | .res3AtHL => true
  | .res3A => true
  | .res4B => true
  | .res4C => true
  | .res4D => true
  | .res4E => true
  | .res4H => true
  | .res4L => true
  | .res4AtHL => true
  | .res4A => true
  | .res5B => true
  | .res5C => true
  | .res5D => true
  | .res5E => true
  | .res5H => true
  | .res5L => true
  | .res5AtHL => true
  | .res5A => true
  | .res6B => true
  | .res6C => true
  | .res6D => true
  | .res6E => true
  | .res6H => true
  | .res6L => true
  | .res6AtHL => true
  | .res6A => true
  | .res7B => true
  | .res7C => true
  | .res7D => true
  | .res7E => true
  | .res7H => true
  | .res7L => true
  | .res7AtHL => true
  | .res7A => true
  | .set0B => true
  | .set0C => true
  | .set0D => true
  | .set0E => true
  | .set0H => true
  | .set0L => true
  | .set0AtHL => true
  | .set0A => true
  | .set1B => true
  | .set1C => true
  | .set1D => true
  | .set1E => true
  | .set1H => true
  | .set1L => true
  | .set1AtHL => true
  | .set1A => true
  | .set2B => true
  | .set2C => true
  | .set2D => true
  | .set2E => true
  | .set2H => true
  | .set2L => true
  | .set2AtHL => true
  | .set2A => true
  | .set3B => true
  | .set3C => true
  | .set3D => true
  | .set3E => true
  | .set3H => true
  | .set3L => true
  | .set3AtHL => true
  | .set3A => true
  | .set4B => true
  | .set4C => true
  | .set4D => true
  | .set4E => true
  | .set4H => true
  | .set4L => true
  | .set4AtHL => true
  | .set4A => true
  | .set5B => true
  | .set5C => true
  | .set5D => true
  | .set5E => true
  | .set5H => true
  | .set5L => true
  | .set5AtHL => true
  | .set5A => true
  | .set6B => true
  | .set6C => true
  | .set6D => true
  | .set6E => true
  | .set6H => true
  | .set6L => true
  | .set6AtHL => true
  | .set6A => true
  | .set7B => true
  | .set7C => true
  | .set7D => true
  | .set7E => true
  | .set7H => true
  | .set7L => true
  | .set7AtHL => true
  | .set7A => true
  | .inBAtC => true
  | .outAtCB => true
  | .sbcHLBC => true
  | .ldAtAbsBC => true
  | .ldIA => true
  | .inCAtC => true
  | .outAtCC => true
  | .adcHLBC => true
  | .ldBCAtAbs => true
  | .reti => true
  | .ldRA => true
  | .inDAtC => true
  | .outAtCD => true
  | .sbcHLDE => true
  | .ldAtAbsDE => true
  | .ldAI => true
  | .inEAtC => true
  | .outAtCE => true
  | .adcHLDE => true
  | .ldDEAtAbs => true
  | .ldAR => true
  | .inHAtC => true
  | .outAtCH => true
  | .sbcHLHL => true
  | .ldAtAbsHLEd => true
  | .rrd => true
  | .inLAtC => true
  | .outAtCL => true
  | .adcHLHL => true
  | .ldHLAtAbsEd => true
  | .rld => true
  | .inAtC => true
  | .outAtC0 => true
  | .sbcHLSP => true
  | .ldAtAbsSP => true
  | .inAAtC => true
  | .outAtCA => true
  | .adcHLSP => true
  | .ldSPAtAbs => true
  | .ldi => true
  | .cpi => true
  | .ini => true
  | .outi => true
  | .ldd => true
  | .cpd => true
  | .ind => true
  | .outd => true
  | .ldir => true
  | .cpir => true
  | .inir => true
  | .otir => true
  | .lddr => true
  | .cpdr => true
  | .indr => true
  | .otdr => true
  | .addIXBC => true
  | .addIXDE => true
  | .ldIXImm16 => true
  | .ldAtAbsIX => true
  | .incIX => true
  | .incIXH => true
  | .decIXH => true
  | .ldIXHImm => true
  | .addIXIX => true
  | .ldIXAtAbs => true
  | .decIX => true
  | .incIXL => true
  | .decIXL => true
  | .ldIXLImm => true
  | .incAtIXd => true
  | .decAtIXd => true
  | .ldAtIXdImm => true
  | .addIXSP => true
  | .ldBIXH => true
  | .ldBIXL => true
  | .ldBAtIXd => true
  | .ldCIXH => true
  | .ldCIXL => true
  | .ldCAtIXd => true
  | .ldDIXH => true
  | .ldDIXL => true
  | .ldDAtIXd => true
  | .ldEIXH => true
  | .ldEIXL => true
  | .ldEAtIXd => true
  | .ldIXHB => true
  | .ldIXHC => true
  | .ldIXHD => true
  | .ldIXHE => true
  | .ldIXHIXH => true
  | .ldIXHIXL => true
  | .ldHAtIXd => true
  | .ldIXHA => true
  | .ldIXLB => true
  | .ldIXLC => true
  | .ldIXLD => true
  | .ldIXLE => true
  | .ldIXLIXH => true
  | .ldIXLIXL => true
  | .ldLAtIXd => true
  | .ldIXLA => true
  | .ldAtIXdB => true
  | .ldAtIXdC => true
  | .ldAtIXdD => true
  | .ldAtIXdE => true
  | .ldAtIXdH => true
  | .ldAtIXdL => true
  | .ldAtIXdA => true
  | .ldAIXH => true
  | .ldAIXL => true
  | .ldAAtIXd => true
  | .addAIXH => true
  | .addAIXL => true
  | .addAAtIXd => true
  | .adcAIXH => true
  | .adcAIXL => true
  | .adcAAtIXd => true
  | .subIXH => true
  | .subIXL => true
  | .subAtIXd => true
  | .sbcAIXH => true
  | .sbcAIXL => true
  | .sbcAAtIXd => true
  | .andIXH => true
  | .andIXL => true
  | .andAtIXd => true
  | .xorIXH => true
  | .xorIXL => true
  | .xorAtIXd => true
  | .orIXH => true
  | .orIXL => true
  | .orAtIXd => true
  | .cpIXH => true
  | .cpIXL => true
  | .cpAtIXd => true
  | .popIX => true
  | .exAtSPIX => true
  | .pushIX => true
  | .jpAtIX => true
  | .ldSPIX => true
  | .addIYBC => true
  | .addIYDE => true
  | .ldIYImm16 => true
  | .ldAtAbsIY => true
  | .incIY => true
  | .incIYH => true
  | .decIYH => true
  | .ldIYHImm => true
  | .addIYIY => true
  | .ldIYAtAbs => true
  | .decIY => true
  | .incIYL => true
  | .decIYL => true
  | .ldIYLImm => true
  | .incAtIYd => true
  | .decAtIYd => true
  | .ldAtIYdImm => true
  | .addIYSP => true
  | .ldBIYH => true
  | .ldBIYL => true
  | .ldBAtIYd => true
  | .ldCIYH => true
  | .ldCIYL => true
  | .ldCAtIYd => true
  | .ldDIYH => true
  | .ldDIYL => true
  | .ldDAtIYd => true
  | .ldEIYH => true
  | .ldEIYL => true
  | .ldEAtIYd => true
  | .ldIYHB => true
  | .ldIYHC => true
  | .ldIYHD => true
  | .ldIYHE => true
  | .ldIYHIYH => true
  | .ldIYHIYL => true
  | .ldHAtIYd => true
  | .ldIYHA => true
  | .ldIYLB => true
  | .ldIYLC => true
  | .ldIYLD => true
  | .ldIYLE => true
  | .ldIYLIYH => true
  | .ldIYLIYL => true
  | .ldLAtIYd => true
  | .ldIYLA => true
  | .ldAtIYdB => true
  | .ldAtIYdC => true
  | .ldAtIYdD => true
  | .ldAtIYdE => true
  | .ldAtIYdH => true
  | .ldAtIYdL => true
  | .ldAtIYdA => true
  | .ldAIYH => true
  | .ldAIYL => true
  | .ldAAtIYd => true
  | .addAIYH => true
  | .addAIYL => true
  | .addAAtIYd => true
  | .adcAIYH => true
  | .adcAIYL => true
  | .adcAAtIYd => true
  | .subIYH => true
  | .subIYL => true
  | .subAtIYd => true
  | .sbcAIYH => true
  | .sbcAIYL => true
  | .sbcAAtIYd => true
  | .andIYH => true
  | .andIYL => true
  | .andAtIYd => true
  | .xorIYH => true
  | .xorIYL => true
  | .xorAtIYd => true
  | .orIYH => true
  | .orIYL => true
  | .orAtIYd => true
  | .cpIYH => true
  | .cpIYL => true
  | .cpAtIYd => true
  | .popIY => true
  | .exAtSPIY => true
  | .pushIY => true
  | .jpAtIY => true
  | .ldSPIY => true
  | .ldBRlcAtIXd => true
  | .ldCRlcAtIXd => true
  | .ldDRlcAtIXd => true
  | .ldERlcAtIXd => true
  | .ldHRlcAtIXd => true
  | .ldLRlcAtIXd => true
  | .rlcAtIXd => true
  | .ldARlcAtIXd => true
  | .ldBRrcAtIXd => true
  | .ldCRrcAtIXd => true
  | .ldDRrcAtIXd => true
  | .ldERrcAtIXd => true
  | .ldHRrcAtIXd => true
  | .ldLRrcAtIXd => true
  | .rrcAtIXd => true
  | .ldARrcAtIXd => true
  | .ldBRlAtIXd => true
  | .ldCRlAtIXd => true
  | .ldDRlAtIXd => true
  | .ldERlAtIXd => true
  | .ldHRlAtIXd => true
  | .ldLRlAtIXd => true
  | .rlAtIXd => true
  | .ldARlAtIXd => true
  | .ldBRrAtIXd => true
  | .ldCRrAtIXd => true
  | .ldDRrAtIXd => true
  | .ldERrAtIXd => true
  | .ldHRrAtIXd => true
  | .ldLRrAtIXd => true
  | .rrAtIXd => true
  | .ldARrAtIXd => true
  | .ldBSlaAtIXd => true
  | .ldCSlaAtIXd => true
  | .ldDSlaAtIXd => true
  | .ldESlaAtIXd => true
  | .ldHSlaAtIXd => true
  | .ldLSlaAtIXd => true
  | .slaAtIXd => true
  | .ldASlaAtIXd => true
  | .ldBSraAtIXd => true
  | .ldCSraAtIXd => true
  | .ldDSraAtIXd => true
  | .ldESraAtIXd => true
  | .ldHSraAtIXd => true
  | .ldLSraAtIXd => true
  | .sraAtIXd => true
  | .ldASraAtIXd => true
  | .ldBSllAtIXd => true
  | .ldCSllAtIXd => true
  | .ldDSllAtIXd => true
  | .ldESllAtIXd => true
  | .ldHSllAtIXd => true
  | .ldLSllAtIXd => true
  | .sllAtIXd => true
  | .ldASllAtIXd => true
  | .ldBSrlAtIXd => true
  | .ldCSrlAtIXd => true
  | .ldDSrlAtIXd => true
  | .ldESrlAtIXd => true
  | .ldHSrlAtIXd => true
  | .ldLSrlAtIXd => true
  | .srlAtIXd => true
  | .ldASrlAtIXd => true
  | .ldBRes0AtIXd => true
  | .ldCRes0AtIXd => true
  | .ldDRes0AtIXd => true
  | .ldERes0AtIXd => true
  | .ldHRes0AtIXd => true
  | .ldLRes0AtIXd => true
  | .res0AtIXd => true
  | .ldARes0AtIXd => true
  | .ldBRes1AtIXd => true
  | .ldCRes1AtIXd => true
  | .ldDRes1AtIXd => true
  | .ldERes1AtIXd => true
  | .ldHRes1AtIXd => true
  | .ldLRes1AtIXd => true
  | .res1AtIXd => true
  | .ldARes1AtIXd => true
  | .ldBRes2AtIXd => true
  | .ldCRes2AtIXd => true
  | .ldDRes2AtIXd => true
  | .ldERes2AtIXd => true
  | .ldHRes2AtIXd => true
  | .ldLRes2AtIXd => true
  | .res2AtIXd => true
  | .ldARes2AtIXd => true
  | .ldBRes3AtIXd => true
  | .ldCRes3AtIXd => true
  | .ldDRes3AtIXd => true
  | .ldERes3AtIXd => true
  | .ldHRes3AtIXd => true
  | .ldLRes3AtIXd => true
  | .res3AtIXd => true
  | .ldARes3AtIXd => true
  | .ldBRes4AtIXd => true
  | .ldCRes4AtIXd => true
  | .ldDRes4AtIXd => true
  | .ldERes4AtIXd => true
  | .ldHRes4AtIXd => true
  | .ldLRes4AtIXd => true
  | .res4AtIXd => true
  | .ldARes4AtIXd => true
  | .ldBRes5AtIXd => true
  | .ldCRes5AtIXd => true
  | .ldDRes5AtIXd => true
  | .ldERes5AtIXd => true
  | .ldHRes5AtIXd => true
  | .ldLRes5AtIXd => true
  | .res5AtIXd => true
  | .ldARes5AtIXd => true
  | .ldBRes6AtIXd => true
  | .ldCRes6AtIXd => true
  | .ldDRes6AtIXd => true
  | .ldERes6AtIXd => true
  | .ldHRes6AtIXd => true
  | .ldLRes6AtIXd => true
  | .res6AtIXd => true
  | .ldARes6AtIXd => true
  | .ldBRes7AtIXd => true
  | .ldCRes7AtIXd => true
  | .ldDRes7AtIXd => true
  | .ldERes7AtIXd => true
  | .ldHRes7AtIXd => true
  | .ldLRes7AtIXd => true
  | .res7AtIXd => true
  | .ldARes7AtIXd => true
  | .ldBSet0AtIXd => true
  | .ldCSet0AtIXd => true
  | .ldDSet0AtIXd => true
  | .ldESet0AtIXd => true
  | .ldHSet0AtIXd => true
  | .ldLSet0AtIXd => true
  | .set0AtIXd => true
  | .ldASet0AtIXd => true
  | .ldBSet1AtIXd => true
  | .ldCSet1AtIXd => true
  | .ldDSet1AtIXd => true
  | .ldESet1AtIXd => true
  | .ldHSet1AtIXd => true
  | .ldLSet1AtIXd => true
  | .set1AtIXd => true
  | .ldASet1AtIXd => true
  | .ldBSet2AtIXd => true
  | .ldCSet2AtIXd => true
  | .ldDSet2AtIXd => true
  | .ldESet2AtIXd => true
  | .ldHSet2AtIXd => true
  | .ldLSet2AtIXd => true
  | .set2AtIXd => true
  | .ldASet2AtIXd => true
  | .ldBSet3AtIXd => true
  | .ldCSet3AtIXd => true
  | .ldDSet3AtIXd => true
  | .ldESet3AtIXd => true
  | .ldHSet3AtIXd => true
  | .ldLSet3AtIXd => true
  | .set3AtIXd => true
  | .ldASet3AtIXd => true
  | .ldBSet4AtIXd => true
  | .ldCSet4AtIXd => true
  | .ldDSet4AtIXd => true
  | .ldESet4AtIXd => true
  | .ldHSet4AtIXd => true
  | .ldLSet4AtIXd => true
  | .set4AtIXd => true
  | .ldASet4AtIXd => true
  | .ldBSet5AtIXd => true
  | .ldCSet5AtIXd => true
  | .ldDSet5AtIXd => true
  | .ldESet5AtIXd => true
  | .ldHSet5AtIXd => true
  | .ldLSet5AtIXd => true
  | .set5AtIXd => true
  | .ldASet5AtIXd => true
  | .ldBSet6AtIXd => true
  | .ldCSet6AtIXd => true
  | .ldDSet6AtIXd => true
  | .ldESet6AtIXd => true
  | .ldHSet6AtIXd => true
  | .ldLSet6AtIXd => true
  | .set6AtIXd => true
  | .ldASet6AtIXd => true
  | .ldBSet7AtIXd => true
  | .ldCSet7AtIXd => true
  | .ldDSet7AtIXd => true
  | .ldESet7AtIXd => true
  | .ldHSet7AtIXd => true
  | .ldLSet7AtIXd => true
  | .set7AtIXd => true
  | .ldASet7AtIXd => true
  | .ldBRlcAtIYd => true
  | .ldCRlcAtIYd => true
  | .ldDRlcAtIYd => true
  | .ldERlcAtIYd => true
  | .ldHRlcAtIYd => true
  | .ldLRlcAtIYd => true
  | .rlcAtIYd => true
  | .ldARlcAtIYd => true
  | .ldBRrcAtIYd => true
  | .ldCRrcAtIYd => true
  | .ldDRrcAtIYd => true
  | .ldERrcAtIYd => true
  | .ldHRrcAtIYd => true
  | .ldLRrcAtIYd => true
  | .rrcAtIYd => true
  | .ldARrcAtIYd => true
  | .ldBRlAtIYd => true
  | .ldCRlAtIYd => true
  | .ldDRlAtIYd => true
  | .ldERlAtIYd => true
  | .ldHRlAtIYd => true
  | .ldLRlAtIYd => true
  | .rlAtIYd => true
  | .ldARlAtIYd => true
  | .ldBRrAtIYd => true
  | .ldCRrAtIYd => true
  | .ldDRrAtIYd => true
  | .ldERrAtIYd => true
  | .ldHRrAtIYd => true
  | .ldLRrAtIYd => true
  | .rrAtIYd => true
  | .ldARrAtIYd => true
  | .ldBSlaAtIYd => true
  | .ldCSlaAtIYd => true
  | .ldDSlaAtIYd => true
  | .ldESlaAtIYd => true
  | .ldHSlaAtIYd => true
  | .ldLSlaAtIYd => true
  | .slaAtIYd => true
  | .ldASlaAtIYd => true
  | .ldBSraAtIYd => true
  | .ldCSraAtIYd => true
  | .ldDSraAtIYd => true
  | .ldESraAtIYd => true
  | .ldHSraAtIYd => true
  | .ldLSraAtIYd => true
  | .sraAtIYd => true
  | .ldASraAtIYd => true
  | .ldBSllAtIYd => true
  | .ldCSllAtIYd => true
  | .ldDSllAtIYd => true
  | .ldESllAtIYd => true
  | .ldHSllAtIYd => true
  | .ldLSllAtIYd => true
  | .sllAtIYd => true
  | .ldASllAtIYd => true
  | .ldBSrlAtIYd => true
  | .ldCSrlAtIYd => true
  | .ldDSrlAtIYd => true
  | .ldESrlAtIYd => true
  | .ldHSrlAtIYd => true
  | .ldLSrlAtIYd => true
  | .srlAtIYd => true
  | .ldASrlAtIYd => true
  | .ldBRes0AtIYd => true
  | .ldCRes0AtIYd => true
  | .ldDRes0AtIYd => true
  | .ldERes0AtIYd => true
  | .ldHRes0AtIYd => true
  | .ldLRes0AtIYd => true
  | .res0AtIYd => true
  | .ldARes0AtIYd => true
  | .ldBRes1AtIYd => true
  | .ldCRes1AtIYd => true
  | .ldDRes1AtIYd => true
  | .ldERes1AtIYd => true
  | .ldHRes1AtIYd => true
  | .ldLRes1AtIYd => true
  | .res1AtIYd => true
  | .ldARes1AtIYd => true
  | .ldBRes2AtIYd => true
  | .ldCRes2AtIYd => true
  | .ldDRes2AtIYd => true
  | .ldERes2AtIYd => true
  | .ldHRes2AtIYd => true
  | .ldLRes2AtIYd => true
  | .res2AtIYd => true
  | .ldARes2AtIYd => true
  | .ldBRes3AtIYd => true
  | .ldCRes3AtIYd => true
  | .ldDRes3AtIYd => true
  | .ldERes3AtIYd => true
  | .ldHRes3AtIYd => true
  | .ldLRes3AtIYd => true
  | .res3AtIYd => true
  | .ldARes3AtIYd => true
  | .ldBRes4AtIYd => true
  | .ldCRes4AtIYd => true
  | .ldDRes4AtIYd => true
  | .ldERes4AtIYd => true
  | .ldHRes4AtIYd => true
  | .ldLRes4AtIYd => true
  | .res4AtIYd => true
  | .ldARes4AtIYd => true
  | .ldBRes5AtIYd => true
  | .ldCRes5AtIYd => true
  | .ldDRes5AtIYd => true
  | .ldERes5AtIYd => true
  | .ldHRes5AtIYd => true
  | .ldLRes5AtIYd => true
  | .res5AtIYd => true
  | .ldARes5AtIYd => true
  | .ldBRes6AtIYd => true
  | .ldCRes6AtIYd => true
  | .ldDRes6AtIYd => true
  | .ldERes6AtIYd => true
  | .ldHRes6AtIYd => true
  | .ldLRes6AtIYd => true
  | .res6AtIYd => true
  | .ldARes6AtIYd => true
  | .ldBRes7AtIYd => true
  | .ldCRes7AtIYd => true
  | .ldDRes7AtIYd => true
  | .ldERes7AtIYd => true
  | .ldHRes7AtIYd => true
  | .ldLRes7AtIYd => true
  | .res7AtIYd => true
  | .ldARes7AtIYd => true
  | .ldBSet0AtIYd => true
  | .ldCSet0AtIYd => true
  | .ldDSet0AtIYd => true
  | .ldESet0AtIYd => true
  | .ldHSet0AtIYd => true
  | .ldLSet0AtIYd => true
  | .set0AtIYd => true
  | .ldASet0AtIYd => true
  | .ldBSet1AtIYd => true
  | .ldCSet1AtIYd => true
  | .ldDSet1AtIYd => true
  | .ldESet1AtIYd => true
  | .ldHSet1AtIYd => true
  | .ldLSet1AtIYd => true
  | .set1AtIYd => true
  | .ldASet1AtIYd => true
  | .ldBSet2AtIYd => true
  | .ldCSet2AtIYd => true
  | .ldDSet2AtIYd => true
  | .ldESet2AtIYd => true
  | .ldHSet2AtIYd => true
  | .ldLSet2AtIYd => true
  | .set2AtIYd => true
  | .ldASet2AtIYd => true
  | .ldBSet3AtIYd => true
  | .ldCSet3AtIYd => true
  | .ldDSet3AtIYd => true
  | .ldESet3AtIYd => true
  | .ldHSet3AtIYd => true
  | .ldLSet3AtIYd => true
  | .set3AtIYd => true
  | .ldASet3AtIYd => true
  | .ldBSet4AtIYd => true
  | .ldCSet4AtIYd => true
  | .ldDSet4AtIYd => true
  | .ldESet4AtIYd => true
  | .ldHSet4AtIYd => true
  | .ldLSet4AtIYd => true
  | .set4AtIYd => true
  | .ldASet4AtIYd => true
  | .ldBSet5AtIYd => true
  | .ldCSet5AtIYd => true
  | .ldDSet5AtIYd => true
  | .ldESet5AtIYd => true
  | .ldHSet5AtIYd => true
  | .ldLSet5AtIYd => true
  | .set5AtIYd => true
  | .ldASet5AtIYd => true
  | .ldBSet6AtIYd => true
  | .ldCSet6AtIYd => true
  | .ldDSet6AtIYd => true
  | .ldESet6AtIYd => true
  | .ldHSet6AtIYd => true
  | .ldLSet6AtIYd => true
  | .set6AtIYd => true
  | .ldASet6AtIYd => true
  | .ldBSet7AtIYd => true
  | .ldCSet7AtIYd => true
  | .ldDSet7AtIYd => true
  | .ldESet7AtIYd => true
  | .ldHSet7AtIYd => true
  | .ldLSet7AtIYd => true
  | .set7AtIYd => true
  | .ldASet7AtIYd => true

end Sys2Proof
end

