-- ==== Sys2Proof/Certificates/Slice0/Obligations.lean ====
section
/-! DEFINITION. The statements for the provers. An instruction is named by its table and opcode bits, as
30_encoding.md R111 to R115 name it, so a statement covers every constructor that the table holds there. -/

open Sys2Proof Sys2Proof.Machine

/-! ## Base table: loads, stack, exchanges, ports -/

/-- R182, R183, R184, R187, R188, R189: the loads of one register. -/
def Obligations.LoadsOfOneRegister : Prop :=
  ∀ (s : State),
    let g := s.regs.past 1 0
    let hl := s.regs.get16 .hl
    let nn := s.codeWord 1
    (∀ y z x v, r8 y = some x → r8 z = some v →
      s.Ran (baseTable (opcode 1 y z)) (s.does (g.set8 x (s.regs.get8 v)) (s.code 1 0) 4)) ∧
    (∀ y x, r8 y = some x →
      s.Ran (baseTable (opcode 0 y 6))
        (s.does ((s.regs.past 1 1).set8 x (s.codeByte 1)) (s.code 1 1) 7) ∧
      s.Ran (baseTable (opcode 1 y 6)) (s.does (g.set8 x (s.peek hl)) (s.code 1 0 ++ [s.rd hl]) 7)) ∧
    (∀ p, p < 2 →
      let a := s.regs.get16 (rp p)
      s.Ran (baseTable (opcode 0 (2 * p + 1) 2))
        (s.does { g with a := s.peek a, memptr := a + 1 } (s.code 1 0 ++ [s.rd a]) 7)) ∧
    s.Ran (baseTable 0x3A)
      (s.does { s.regs.past 1 2 with a := s.peek nn, memptr := nn + 1 } (s.code 1 2 ++ [s.rd nn]) 13)

/-- R185, R186, R190, R191, R192: the stores of one byte. -/
def Obligations.StoresOfOneByte : Prop :=
  ∀ (s : State),
    let g := s.regs.past 1 0
    let hl := s.regs.get16 .hl
    let nn := s.codeWord 1
    let a := s.regs.a
    (∀ z v, r8 z = some v →
      s.Ran (baseTable (opcode 1 6 z)) (s.does g (s.code 1 0 ++ [.write hl (s.regs.get8 v)]) 7)) ∧
    s.Ran (baseTable 0x36) (s.does (s.regs.past 1 1) (s.code 1 1 ++ [.write hl (s.codeByte 1)]) 10) ∧
    s.Ran (baseTable 0x02)
      (s.does { g with memptr := mkWord a (s.regs.c + 1) } (s.code 1 0 ++ [.write (s.regs.get16 .bc) a]) 7) ∧
    s.Ran (baseTable 0x12)
      (s.does { g with memptr := mkWord a (s.regs.e + 1) } (s.code 1 0 ++ [.write (s.regs.get16 .de) a]) 7) ∧
    s.Ran (baseTable 0x32)
      (s.does { s.regs.past 1 2 with memptr := mkWord a (loByte (nn + 1)) } (s.code 1 2 ++ [.write nn a]) 13)

/-- R193 to R196: the base loads of a pair. -/
def Obligations.LoadsOfAPair : Prop :=
  ∀ (s : State),
    let g := s.regs.past 1 2
    let hl := s.regs.get16 .hl
    let nn := s.codeWord 1
    (∀ p, p < 4 → s.Ran (baseTable (opcode 0 (2 * p) 1)) (s.does (g.set16 (rp p) nn) (s.code 1 2) 10)) ∧
    s.Ran (baseTable 0x2A)
      (s.does { g.set16 .hl (s.peek16 nn) with memptr := nn + 1 } (s.code 1 2 ++ s.rd16 nn) 16) ∧
    s.Ran (baseTable 0x22) (s.does { g with memptr := nn + 1 } (s.code 1 2 ++ wr16 nn hl) 16) ∧
    s.Ran (baseTable 0xF9) (s.does { s.regs.past 1 0 with sp := hl } (s.code 1 0 ++ [s.irWait 1 2]) 6)

/-- R180, R181, R197, R198: `PUSH` and `POP`. The order of the two writes is the spec's decision D4 (assumption 25), so
no rule is cited. -/
def Obligations.PushAndPop : Prop :=
  ∀ (s : State) (p : Nat), p < 4 →
    let g := s.regs.past 1 0
    let sp := s.regs.sp
    s.Ran (baseTable (opcode 3 (2 * p) 5))
      (s.does { g with sp := sp - 2 }
        (s.code 1 0 ++ [s.irWait 1 1] ++ pushed sp (s.regs.get16 (rp2 p))) 11) ∧
    s.Ran (baseTable (opcode 3 (2 * p) 1))
      (s.does (Regs.set16 { g with sp := sp + 2 } (rp2 p) (s.peek16 sp)) (s.code 1 0 ++ s.rd16 sp) 10)

/-- R199 to R202: the exchanges. -/
def Obligations.Exchanges : Prop :=
  ∀ (s : State),
    let g := s.regs.past 1 0
    let hl := s.regs.get16 .hl
    let sp := s.regs.sp
    s.Ran (baseTable 0x08)
      { s.does { g with a := s.shadow.a, f := s.shadow.f } (s.code 1 0) 4 with
        shadow := { s.shadow with a := s.regs.a, f := s.regs.f } } ∧
    s.Ran (baseTable 0xD9)
      { s.does { g with b := s.shadow.b, c := s.shadow.c, d := s.shadow.d, e := s.shadow.e, h := s.shadow.h,
                        l := s.shadow.l } (s.code 1 0) 4 with
        shadow := { s.shadow with b := s.regs.b, c := s.regs.c, d := s.regs.d, e := s.regs.e, h := s.regs.h,
                                  l := s.regs.l } } ∧
    s.Ran (baseTable 0xEB)
      (s.does { g with d := s.regs.h, e := s.regs.l, h := s.regs.d, l := s.regs.e } (s.code 1 0) 4) ∧
    s.Ran (baseTable 0xE3)
      (s.does { g.set16 .hl (s.peek16 sp) with memptr := s.peek16 sp }
        (s.code 1 0 ++ s.rd16 sp ++
          [.wait (sp + 1) 1, .write (sp + 1) (hiByte hl), .write sp (loByte hl), .wait sp 2]) 19)

/-- R203, R204: the accumulator's port instructions. -/
def Obligations.AccumulatorPorts : Prop :=
  ∀ (s : State),
    let g := s.regs.past 1 1
    let n := s.codeByte 1
    let port := mkWord s.regs.a n
    s.Ran (baseTable 0xDB)
      (s.does { g with a := s.portByte port, memptr := port + 1 }
        (s.code 1 1 ++ [.portIn port (s.portByte port)]) 11) ∧
    s.Ran (baseTable 0xD3)
      (s.does { g with memptr := mkWord s.regs.a (n + 1) } (s.code 1 1 ++ [.portOut port s.regs.a]) 11)

/-! ## Base table: arithmetic and logic -/

/-- R230 to R237: the eight accumulator operations in their three operand forms. The flags they leave are those
of `Obligations.FlagsOfAddition`, `Obligations.FlagsOfSubtraction` and `Obligations.FlagsOfLogicAndCounting`. -/
def Obligations.AccumulatorOperations : Prop :=
  ∀ (s : State) (y : Nat), y < 8 →
    let a := s.regs.a
    let c := s.regs.f.getLsbD 0
    let out := fun v => [add8 a v false, add8 a v c, sub8 a v false, sub8 a v c, and8 a v, xor8 a v, or8 a v,
      ⟨a, cp8 a v⟩].getD y ⟨a, s.regs.f⟩
    let hl := s.regs.get16 .hl
    (∀ z x, r8 z = some x →
      s.Ran (baseTable (opcode 2 y z))
        (s.does ((s.regs.past 1 0).takes (out (s.regs.get8 x))) (s.code 1 0) 4)) ∧
    s.Ran (baseTable (opcode 2 y 6))
      (s.does ((s.regs.past 1 0).takes (out (s.peek hl))) (s.code 1 0 ++ [s.rd hl]) 7) ∧
    s.Ran (baseTable (opcode 3 y 6)) (s.does ((s.regs.past 1 1).takes (out (s.codeByte 1))) (s.code 1 1) 7)

/-- R238 to R241: 8-bit increment and decrement. -/
def Obligations.IncrementAndDecrement : Prop :=
  ∀ (s : State),
    let g := s.regs.past 1 0
    let hl := s.regs.get16 .hl
    let up := inc8 (s.peek hl) s.regs.f
    let down := dec8 (s.peek hl) s.regs.f
    (∀ y x, r8 y = some x →
      let inc := inc8 (s.regs.get8 x) s.regs.f
      let dec := dec8 (s.regs.get8 x) s.regs.f
      s.Ran (baseTable (opcode 0 y 4)) (s.does { g.set8 x inc.res with f := inc.flags } (s.code 1 0) 4) ∧
      s.Ran (baseTable (opcode 0 y 5)) (s.does { g.set8 x dec.res with f := dec.flags } (s.code 1 0) 4)) ∧
    s.Ran (baseTable 0x34)
      (s.does { g with f := up.flags } (s.code 1 0 ++ s.readModifyWrite hl 1 up.res) 11) ∧
    s.Ran (baseTable 0x35)
      (s.does { g with f := down.flags } (s.code 1 0 ++ s.readModifyWrite hl 1 down.res) 11)

/-- R242, R243, R244, R354, R355: arithmetic on pairs. -/
def Obligations.PairArithmetic : Prop :=
  ∀ (s : State) (p : Nat), p < 4 →
    let g := s.regs.past 1 0
    let hl := s.regs.get16 .hl
    let w := s.regs.get16 (rp p)
    let sum := add16 hl w s.regs.f
    let adc := adc16 hl w s.regs.f
    let sbc := sbc16 hl w s.regs.f
    s.Ran (baseTable (opcode 0 (2 * p) 3)) (s.does (g.set16 (rp p) (w + 1)) (s.code 1 0 ++ [s.irWait 1 2]) 6) ∧
    s.Ran (baseTable (opcode 0 (2 * p + 1) 3))
      (s.does (g.set16 (rp p) (w - 1)) (s.code 1 0 ++ [s.irWait 1 2]) 6) ∧
    s.Ran (baseTable (opcode 0 (2 * p + 1) 1))
      (s.does { g.set16 .hl sum.res with f := sum.flags, memptr := hl + 1 } (s.code 1 0 ++ [s.irWait 1 7]) 11) ∧
    s.Ran (edTable (opcode 1 (2 * p + 1) 2))
      (s.does { (s.regs.past 2 0).set16 .hl adc.res with f := adc.flags, memptr := hl + 1 }
        (s.code 2 0 ++ [s.irWait 2 7]) 15) ∧
    s.Ran (edTable (opcode 1 (2 * p) 2))
      (s.does { (s.regs.past 2 0).set16 .hl sbc.res with f := sbc.flags, memptr := hl + 1 }
        (s.code 2 0 ++ [s.irWait 2 7]) 15)

/-- R245 to R248, R250: the accumulator rotates and `CPL`, each flag bit written out. -/
def Obligations.AccumulatorRotatesAndComplement : Prop :=
  ∀ (s : State),
    let g := s.regs.past 1 0
    let a := s.regs.a
    let f := s.regs.f
    let c := f.getLsbD 0
    let kept := fun (r : Byte) (out : Bool) =>
      flagsOf (f.getLsbD 7) (f.getLsbD 6) (r.getLsbD 5) false (r.getLsbD 3) (f.getLsbD 2) false out
    let rlc := a.rotateLeft 1
    let rrc := a.rotateRight 1
    let rl := (a <<< 1) ||| (BitVec.ofBool c).setWidth 8
    let rr := (a >>> 1) ||| ((BitVec.ofBool c).setWidth 8 <<< 7)
    let flip := ~~~a
    s.Ran (baseTable 0x07) (s.does { g with a := rlc, f := kept rlc (a.getLsbD 7) } (s.code 1 0) 4) ∧
    s.Ran (baseTable 0x0F) (s.does { g with a := rrc, f := kept rrc (a.getLsbD 0) } (s.code 1 0) 4) ∧
    s.Ran (baseTable 0x17) (s.does { g with a := rl, f := kept rl (a.getLsbD 7) } (s.code 1 0) 4) ∧
    s.Ran (baseTable 0x1F) (s.does { g with a := rr, f := kept rr (a.getLsbD 0) } (s.code 1 0) 4) ∧
    s.Ran (baseTable 0x2F)
      (s.does
        { g with
          a := flip
          f := flagsOf (f.getLsbD 7) (f.getLsbD 6) (flip.getLsbD 5) true (flip.getLsbD 3) (f.getLsbD 2) true c }
        (s.code 1 0) 4)

/-- R249: `DAA`, as the rule's pseudocode computes it. -/
def Obligations.DecimalAdjust : Prop :=
  ∀ (s : State),
    let a := s.regs.a
    let f := s.regs.f
    let high := decide (0x99 < a.toNat)
    let low : Byte := if f.getLsbD 4 || decide (9 < a.toNat % 16) then 0x06 else 0x00
    let add : Byte := if f.getLsbD 0 || high then low ||| 0x60 else low
    let o := if f.getLsbD 1 then sub8 a add false else add8 a add false
    s.Ran (baseTable 0x27)
      (s.does
        { s.regs.past 1 0 with
          a := o.res
          f := (o.flags &&& 0xFA) ||| maskIf (f.getLsbD 0 || high) flagC ||| parity o.res }
        (s.code 1 0) 4)

/-- R251, R252: `SCF` and `CCF`. That bits 5 and 3 come from `A` alone is the spec's decision D18 (assumption 18),
so no rule is cited. -/
def Obligations.CarryFlagInstructions : Prop :=
  ∀ (s : State),
    let g := s.regs.past 1 0
    let a := s.regs.a
    let f := s.regs.f
    let c := f.getLsbD 0
    let kept := fun h c =>
      flagsOf (f.getLsbD 7) (f.getLsbD 6) (a.getLsbD 5) h (a.getLsbD 3) (f.getLsbD 2) false c
    s.Ran (baseTable 0x37) (s.does { g with f := kept false true } (s.code 1 0) 4) ∧
    s.Ran (baseTable 0x3F) (s.does { g with f := kept c (!c) } (s.code 1 0) 4)

/-! ## Base table: control flow -/

/-- R280 to R286: `NOP` and the jumps. -/
def Obligations.Jumps : Prop :=
  ∀ (s : State),
    let g := s.regs.past 1 0
    let nn := s.codeWord 1
    let b := s.regs.b - 1
    s.Ran (baseTable 0x00) (s.does g (s.code 1 0) 4) ∧
    s.Ran (baseTable 0xC3) (s.does (g.jump nn) (s.code 1 2) 10) ∧
    (∀ y, y < 8 →
      s.Ran (baseTable (opcode 3 y 2))
        (s.does { s.regs.past 1 2 with
                  pc := if (ccOf y).holds s.regs.f then nn else s.codeAddr 3
                  memptr := nn } (s.code 1 2) 10)) ∧
    s.Ran (baseTable 0xE9) (s.does { g with pc := s.regs.get16 .hl } (s.code 1 0) 4) ∧
    s.Ran (baseTable 0x18) (s.branch true (s.regs.past 1 1) (s.code 1 1) 7) ∧
    (∀ y, y < 4 →
      s.Ran (baseTable (opcode 0 (y + 4) 0))
        (s.branch ((ccOf y).holds s.regs.f) (s.regs.past 1 1) (s.code 1 1) 7)) ∧
    s.Ran (baseTable 0x10)
      (s.branch (b != 0) { s.regs.past 1 1 with b := b }
        (s.code 1 0 ++ [s.irWait 1 1, s.rd (s.codeAddr 1)]) 8)

/-- R287 to R291: calls, returns and restarts. The order of the two writes is the spec's decision D4 (assumption 25), so
no rule is cited. -/
def Obligations.CallsAndReturns : Prop :=
  ∀ (s : State),
    let g := s.regs.past 1 0
    let nn := s.codeWord 1
    let sp := s.regs.sp
    let call := s.does (Regs.jump { g with sp := sp - 2 } nn)
      (s.code 1 2 ++ [.wait (s.codeAddr 2) 1] ++ pushed sp (s.codeAddr 3)) 17
    let back := Regs.jump { g with sp := sp + 2 } (s.peek16 sp)
    s.Ran (baseTable 0xCD) call ∧
    s.Ran (baseTable 0xC9) (s.does back (s.code 1 0 ++ s.rd16 sp) 10) ∧
    (∀ y, y < 8 →
      s.Ran (baseTable (opcode 3 y 4))
        (if (ccOf y).holds s.regs.f then call
         else s.does { s.regs.past 1 2 with memptr := nn } (s.code 1 2) 10) ∧
      s.Ran (baseTable (opcode 3 y 0))
        (if (ccOf y).holds s.regs.f then s.does back (s.code 1 0 ++ [s.irWait 1 1] ++ s.rd16 sp) 11
         else s.does g (s.code 1 0 ++ [s.irWait 1 1]) 5) ∧
      s.Ran (baseTable (opcode 3 y 7))
        (s.does (Regs.jump { g with sp := sp - 2 } (BitVec.ofNat 16 (8 * y)))
          (s.code 1 0 ++ [s.irWait 1 1] ++ pushed sp (s.codeAddr 1)) 11))

/-- R292: `HALT` sets `halted` and leaves `PC` at its own byte. That representation is the spec's decision D10
(assumption 7), so no rule is cited. -/
def Obligations.HaltInstruction : Prop :=
  ∀ (s : State),
    s.Ran (baseTable 0x76)
      { s.does { s.regs.past 1 0 with pc := s.regs.pc } (s.code 1 0) 4 with ctl := { s.ctl with halted := true } }

/-- R293, R294, R359, R360: the instructions that write the interrupt flip-flops. That `RETI` is `RETN` is the spec's
decision D29 (assumption 24), so no rule is cited. -/
def Obligations.InterruptFlipFlops : Prop :=
  ∀ (s : State),
    let g := s.regs.past 1 0
    let sp := s.regs.sp
    let back := { s.does (Regs.jump { s.regs.past 2 0 with sp := sp + 2 } (s.peek16 sp)) (s.code 2 0 ++ s.rd16 sp) 14
                  with ctl := { s.ctl with iff1 := s.ctl.iff2 } }
    s.Ran (baseTable 0xF3)
      { s.does g (s.code 1 0) 4 with ctl := { s.ctl with iff1 := false, iff2 := false } } ∧
    s.Ran (baseTable 0xFB)
      { s.does g (s.code 1 0) 4 with ctl := { s.ctl with iff1 := true, iff2 := true, eiJustExecuted := true } } ∧
    ∀ y, y < 8 → s.Ran (edTable (opcode 1 y 5)) back

/-! ## CB table -/

/-- R331 to R339, R341, R342: the CB table on a register. -/
def Obligations.BitOperationsOnRegisters : Prop :=
  ∀ (s : State) (y z : Nat) (x : Reg8), y < 8 → r8 z = some x →
    let g := s.regs.past 2 0
    let v := s.regs.get8 x
    let o := rotate (rotOf y) v s.regs.f
    s.Ran (cbTable (opcode 0 y z)) (s.does { g.set8 x o.res with f := o.flags } (s.code 2 0) 8) ∧
    s.Ran (cbTable (opcode 1 y z)) (s.does { g with f := bitFlags y v v s.regs.f } (s.code 2 0) 8) ∧
    s.Ran (cbTable (opcode 2 y z)) (s.does (g.set8 x (resBit y v)) (s.code 2 0) 8) ∧
    s.Ran (cbTable (opcode 3 y z)) (s.does (g.set8 x (setBit y v)) (s.code 2 0) 8)

/-- R330, R340: the CB table on the byte at `HL`. -/
def Obligations.BitOperationsOnMemory : Prop :=
  ∀ (s : State) (y : Nat), y < 8 →
    let g := s.regs.past 2 0
    let hl := s.regs.get16 .hl
    let v := s.peek hl
    let o := rotate (rotOf y) v s.regs.f
    s.Ran (cbTable (opcode 0 y 6))
      (s.does { g with f := o.flags } (s.code 2 0 ++ s.readModifyWrite hl 1 o.res) 15) ∧
    s.Ran (cbTable (opcode 1 y 6))
      (s.does { g with f := bitFlags y v (hiByte s.regs.memptr) s.regs.f }
        (s.code 2 0 ++ [s.rd hl, .wait hl 1]) 12) ∧
    s.Ran (cbTable (opcode 2 y 6)) (s.does g (s.code 2 0 ++ s.readModifyWrite hl 1 (resBit y v)) 15) ∧
    s.Ran (cbTable (opcode 3 y 6)) (s.does g (s.code 2 0 ++ s.readModifyWrite hl 1 (setBit y v)) 15)

/-- R157 to R166: the byte each rotate or shift returns and its flags, the flags of `bit`, and `res` and `set`, in terms
of bits. -/
def Obligations.BitFunctionsBitByBit : Prop :=
  ∀ (v f : Byte) (y : Nat), y < 8 →
    let c := f.getLsbD 0
    let left := y = 0 ∨ y = 2 ∨ y = 4 ∨ y = 6
    let o := rotate (rotOf y) v f
    (left → (∀ k, k < 7 → o.res.getLsbD (k + 1) = v.getLsbD k) ∧
      o.res.getLsbD 0 = (if y = 0 then v.getLsbD 7 else if y = 2 then c else y == 6)) ∧
    (¬left → (∀ k, k < 7 → o.res.getLsbD k = v.getLsbD (k + 1)) ∧
      o.res.getLsbD 7 = (if y = 1 then v.getLsbD 0 else if y = 3 then c else if y = 5 then v.getLsbD 7 else false)) ∧
    o.flags = flagsOf (o.res.getLsbD 7) (o.res == 0) (o.res.getLsbD 5) false (o.res.getLsbD 3)
      (popcount o.res % 2 == 0) false (if y % 2 = 0 then v.getLsbD 7 else v.getLsbD 0) ∧
    (∀ x, bitFlags y v x f =
      flagsOf (y == 7 && v.getLsbD 7) (!v.getLsbD y) (x.getLsbD 5) true (x.getLsbD 3) (!v.getLsbD y) false c) ∧
    ∀ k, k < 8 → (resBit y v).getLsbD k = (k != y && v.getLsbD k) ∧ (setBit y v).getLsbD k = (k == y || v.getLsbD k)

/-! ## ED table -/

/-- R350, R351, R352: port input and output through `BC`. -/
def Obligations.PortsThroughBC : Prop :=
  ∀ (s : State),
    let bc := s.regs.get16 .bc
    let v := s.portByte bc
    let c := s.regs.f.getLsbD 0
    let f := flagsOf (v.getLsbD 7) (v == 0) (v.getLsbD 5) false (v.getLsbD 3) (popcount v % 2 == 0) false c
    let g := { s.regs.past 2 0 with memptr := bc + 1 }
    (∀ y x, r8 y = some x →
      s.Ran (edTable (opcode 1 y 0))
        (s.does (Regs.set8 { g with f := f } x v) (s.code 2 0 ++ [.portIn bc v]) 12) ∧
      s.Ran (edTable (opcode 1 y 1)) (s.does g (s.code 2 0 ++ [.portOut bc (s.regs.get8 x)]) 12)) ∧
    s.Ran (edTable 0x70) (s.does { g with f := f } (s.code 2 0 ++ [.portIn bc v]) 12)

/-- R353, R361, R368: the ED encodings whose meaning is the spec's decision: `OUT (C),0` writes parameter P9 (D21,
assumption 16), `IM` by `y & 3` (D17) and the no-ops (D7), both assumption 22. No rule is cited. -/
def Obligations.DecidedEdEncodings : Prop :=
  ∀ (s : State),
    let g := s.regs.past 2 0
    let bc := s.regs.get16 .bc
    s.Ran (edTable 0x71)
      (s.does { g with memptr := bc + 1 } (s.code 2 0 ++ [.portOut bc s.platform.outCZeroValue]) 12) ∧
    (∀ y, y < 8 →
      s.Ran (edTable (opcode 1 y 6))
        { s.does g (s.code 2 0) 8 with
          ctl := { s.ctl with interruptMode := [.im0, .im0, .im1, .im2].getD (y % 4) .im0 } }) ∧
    ∀ x y z, y < 8 → z < 8 → x = 0 ∨ x = 3 ∨ (x = 1 ∧ z = 7 ∧ 6 ≤ y) ∨ (x = 2 ∧ (y < 4 ∨ 3 < z)) →
      s.Ran (edTable (opcode x y z)) (s.does g (s.code 2 0) 8)

/-- R356, R357, R358: the ED loads of a pair through an address, and `NEG`. -/
def Obligations.EdPairLoadsAndNegate : Prop :=
  ∀ (s : State),
    let nn := s.codeWord 2
    let g := { s.regs.past 2 2 with memptr := nn + 1 }
    let a := s.regs.a
    let r := -a
    (∀ p, p < 4 →
      s.Ran (edTable (opcode 1 (2 * p) 3))
        (s.does g (s.code 2 2 ++ wr16 nn (s.regs.get16 (rp p))) 20) ∧
      s.Ran (edTable (opcode 1 (2 * p + 1) 3))
        (s.does (g.set16 (rp p) (s.peek16 nn)) (s.code 2 2 ++ s.rd16 nn) 20)) ∧
    ∀ y, y < 8 →
      s.Ran (edTable (opcode 1 y 4))
        (s.does
          { s.regs.past 2 0 with
            a := r
            f := flagsOf (r.getLsbD 7) (r == 0) (r.getLsbD 5) (decide (a.toNat % 16 ≠ 0)) (r.getLsbD 3) (a == 0x80)
              true (a != 0) }
          (s.code 2 0) 8)

/-- R362 to R367: the transfers of `I` and `R`, and the nibble rotates. That `PV` is `iff2` always is the spec's decision
D20 (assumption 19), so no rule is cited. -/
def Obligations.InterruptRegistersAndNibbleRotates : Prop :=
  ∀ (s : State),
    let g := s.regs.past 2 0
    let a := s.regs.a
    let c := s.regs.f.getLsbD 0
    let hl := s.regs.get16 .hl
    let t := s.peek hl
    let wait := s.code 2 0 ++ [s.irWait 2 1]
    let loaded := fun (v : Byte) =>
      { g with
        a := v
        f := flagsOf (v.getLsbD 7) (v == 0) (v.getLsbD 5) false (v.getLsbD 3) s.ctl.iff2 false c }
    let digit := fun (v m : Byte) =>
      s.does
        { g with
          a := v
          f := flagsOf (v.getLsbD 7) (v == 0) (v.getLsbD 5) false (v.getLsbD 3) (popcount v % 2 == 0) false c
          memptr := hl + 1 }
        (s.code 2 0 ++ s.readModifyWrite hl 4 m) 18
    s.Ran (edTable 0x47) (s.does { g with i := a } wait 9) ∧
    s.Ran (edTable 0x4F) (s.does { g with r := a } wait 9) ∧
    s.Ran (edTable 0x57) (s.does (loaded g.i) wait 9) ∧
    s.Ran (edTable 0x5F) (s.does (loaded g.r) wait 9) ∧
    s.Ran (edTable 0x67)
      (digit (a.extractLsb' 4 4 ++ t.extractLsb' 0 4) (a.extractLsb' 0 4 ++ t.extractLsb' 4 4)) ∧
    s.Ran (edTable 0x6F)
      (digit (a.extractLsb' 4 4 ++ t.extractLsb' 4 4) (t.extractLsb' 0 4 ++ a.extractLsb' 0 4))

/-- R400 to R403, R417: block transfer, `y` from 4 to 7 for `LDI`, `LDD`, `LDIR`, `LDDR`. -/
def Obligations.BlockTransfer : Prop :=
  ∀ (s : State) (y : Nat), 4 ≤ y → y < 8 →
    let hl := s.regs.get16 .hl
    let de := s.regs.get16 .de
    let bc := s.regs.get16 .bc - 1
    let v := s.peek hl
    let n := v + s.regs.a
    let f := s.regs.f
    let g := (((s.regs.past 2 0).set16 .bc bc).set16 .de (de + (blockDir y).step)).set16 .hl (hl + (blockDir y).step)
    s.Ran (edTable (opcode 2 y 0))
      (s.loop (decide (6 ≤ y) && bc != 0)
        { g with
          f := flagsOf (f.getLsbD 7) (f.getLsbD 6) (n.getLsbD 1) false (n.getLsbD 3) (bc != 0) false (f.getLsbD 0) }
        (s.code 2 0 ++ [.read hl v, .write de v, .wait de 2]) de)

/-- R404 to R407, R418: block compare, `y` from 4 to 7 for `CPI`, `CPD`, `CPIR`, `CPDR`. -/
def Obligations.BlockCompare : Prop :=
  ∀ (s : State) (y : Nat), 4 ≤ y → y < 8 →
    let hl := s.regs.get16 .hl
    let bc := s.regs.get16 .bc - 1
    let a := s.regs.a
    let v := s.peek hl
    let t := a - v
    let half := decide (a.toNat % 16 < v.toNat % 16)
    let n := if half then t - 1 else t
    let g := ((s.regs.past 2 0).set16 .bc bc).set16 .hl (hl + (blockDir y).step)
    s.Ran (edTable (opcode 2 y 1))
      (s.loop (decide (6 ≤ y) && bc != 0 && t != 0)
        { g with
          f := flagsOf (t.getLsbD 7) (t == 0) (n.getLsbD 1) half (n.getLsbD 3) (bc != 0) true (s.regs.f.getLsbD 0)
          memptr := s.regs.memptr + (blockDir y).step }
        (s.code 2 0 ++ [s.rd hl, .wait hl 5]) hl)

/-- R408, R409, R412, R413: single block input (`y` 4, 5 for `INI`, `IND`) and output (`OUTI`, `OUTD`). -/
def Obligations.BlockInputAndOutput : Prop :=
  ∀ (s : State) (y : Nat), y = 4 ∨ y = 5 →
    let hl := s.regs.get16 .hl
    let next := hl + (blockDir y).step
    let b := s.regs.b - 1
    let flags := fun (t : Byte) (x : Byte) =>
      let k := t.toNat + x.toNat
      flagsOf (b.getLsbD 7) (b == 0) (b.getLsbD 5) (decide (255 < k)) (b.getLsbD 3)
        (popcount (BitVec.ofNat 8 (k % 8) ^^^ b) % 2 == 0) (t.getLsbD 7) (decide (255 < k))
    let g := Regs.set16 { s.regs.past 2 0 with b := b } .hl next
    let inPort := s.regs.get16 .bc
    let input := s.portByte inPort
    let outPort := mkWord b s.regs.c
    s.Ran (edTable (opcode 2 y 2))
      (s.does { g with f := flags input (s.regs.c + (blockDir y).step8), memptr := inPort + (blockDir y).step }
        (s.code 2 0 ++ [s.irWait 2 1, .portIn inPort input, .write hl input]) 16) ∧
    s.Ran (edTable (opcode 2 y 3))
      (s.does { g with f := flags (s.peek hl) (loByte next), memptr := outPort + (blockDir y).step }
        (s.code 2 0 ++ [s.irWait 2 1, s.rd hl, .portOut outPort (s.peek hl)]) 16)

/-- R410, R411, R414, R415: repeated block input and output (`y` 6, 7 for `INIR`, `INDR`; `OTIR`, `OTDR`): what the
single form does and, where `B` is not 0 after it, the loop. What `MEMPTR` holds then is the spec's decision D19
(assumption 21), so no rule is cited. -/
def Obligations.RepeatedBlockInputAndOutput : Prop :=
  ∀ (s : State) (y : Nat), y = 6 ∨ y = 7 →
    let hl := s.regs.get16 .hl
    let next := hl + (blockDir y).step
    let b := s.regs.b - 1
    let flags := fun (t : Byte) (x : Byte) =>
      let k := t.toNat + x.toNat
      flagsOf (b.getLsbD 7) (b == 0) (b.getLsbD 5) (decide (255 < k)) (b.getLsbD 3)
        (popcount (BitVec.ofNat 8 (k % 8) ^^^ b) % 2 == 0) (t.getLsbD 7) (decide (255 < k))
    let g := Regs.set16 { s.regs.past 2 0 with b := b } .hl next
    let inPort := s.regs.get16 .bc
    let input := s.portByte inPort
    let outPort := mkWord b s.regs.c
    s.Ran (edTable (opcode 2 y 2))
      (s.loop (b != 0)
        { g with f := flags input (s.regs.c + (blockDir y).step8), memptr := inPort + (blockDir y).step }
        (s.code 2 0 ++ [s.irWait 2 1, .portIn inPort input, .write hl input]) hl) ∧
    s.Ran (edTable (opcode 2 y 3))
      (s.loop (b != 0)
        { g with f := flags (s.peek hl) (loByte next), memptr := outPort + (blockDir y).step }
        (s.code 2 0 ++ [s.irWait 2 1, s.rd hl, .portOut outPort (s.peek hl)]) outPort)

/-! ## Index tables -/

/-- R432 to R437, R449 to R453: list P, the index register in the place of `HL`. The order of the two writes of `PUSH` is
the spec's decision D4 (assumption 25), so no rule is cited. -/
def Obligations.IndexRegisterForms : Prop :=
  ∀ (s : State) (ii : Idx),
    let g := s.regs.past 2 0
    let idx := idxReg ii
    let w := s.regs.get16 idx
    let nn := s.codeWord 2
    let sp := s.regs.sp
    (∀ p, p < 4 →
      let sum := add16 w (s.regs.get16 (rpx ii p)) s.regs.f
      s.Ran (idxTable ii (opcode 0 (2 * p + 1) 1))
        (s.does { g.set16 idx sum.res with f := sum.flags, memptr := w + 1 } (s.code 2 0 ++ [s.irWait 2 7]) 15)) ∧
    s.Ran (idxTable ii 0x21) (s.does ((s.regs.past 2 2).set16 idx nn) (s.code 2 2) 14) ∧
    s.Ran (idxTable ii 0x22)
      (s.does { s.regs.past 2 2 with memptr := nn + 1 } (s.code 2 2 ++ wr16 nn w) 20) ∧
    s.Ran (idxTable ii 0x2A)
      (s.does { (s.regs.past 2 2).set16 idx (s.peek16 nn) with memptr := nn + 1 } (s.code 2 2 ++ s.rd16 nn) 20) ∧
    s.Ran (idxTable ii 0x23) (s.does (g.set16 idx (w + 1)) (s.code 2 0 ++ [s.irWait 2 2]) 10) ∧
    s.Ran (idxTable ii 0x2B) (s.does (g.set16 idx (w - 1)) (s.code 2 0 ++ [s.irWait 2 2]) 10) ∧
    s.Ran (idxTable ii 0xE1)
      (s.does (Regs.set16 { g with sp := sp + 2 } idx (s.peek16 sp)) (s.code 2 0 ++ s.rd16 sp) 14) ∧
    s.Ran (idxTable ii 0xE5)
      (s.does { g with sp := sp - 2 } (s.code 2 0 ++ [s.irWait 2 1] ++ pushed sp w) 15) ∧
    s.Ran (idxTable ii 0xE3)
      (s.does { g.set16 idx (s.peek16 sp) with memptr := s.peek16 sp }
        (s.code 2 0 ++ s.rd16 sp ++
          [.wait (sp + 1) 1, .write (sp + 1) (hiByte w), .write sp (loByte w), .wait sp 2]) 23) ∧
    s.Ran (idxTable ii 0xE9) (s.does { g with pc := w } (s.code 2 0) 8) ∧
    s.Ran (idxTable ii 0xF9) (s.does { g with sp := w } (s.code 2 0 ++ [s.irWait 2 2]) 10)

/-- R438, R439, R440, R446, R447: list H, the halves of the index register. -/
def Obligations.IndexHalfForms : Prop :=
  ∀ (s : State) (ii : Idx) (y : Nat) (x : Reg8), r8x ii y = some x →
    let g := s.regs.past 2 0
    let inc := inc8 (s.regs.get8 x) s.regs.f
    let dec := dec8 (s.regs.get8 x) s.regs.f
    (y = 4 ∨ y = 5 →
      s.Ran (idxTable ii (opcode 0 y 4)) (s.does { g.set8 x inc.res with f := inc.flags } (s.code 2 0) 8) ∧
      s.Ran (idxTable ii (opcode 0 y 5)) (s.does { g.set8 x dec.res with f := dec.flags } (s.code 2 0) 8) ∧
      s.Ran (idxTable ii (opcode 0 y 6))
        (s.does ((s.regs.past 2 1).set8 x (s.codeByte 2)) (s.code 2 1) 11) ∧
      ∀ o, o < 8 → s.Ran (idxTable ii (opcode 2 o y))
        (s.does (g.takes (aluOut (aluOf o) s.regs.a (s.regs.get8 x) s.regs.f)) (s.code 2 0) 8)) ∧
    ∀ z v, r8x ii z = some v → y = 4 ∨ y = 5 ∨ z = 4 ∨ z = 5 →
      s.Ran (idxTable ii (opcode 1 y z)) (s.does (g.set8 x (s.regs.get8 v)) (s.code 2 0) 8)

/-- R441 to R445, R448: list M, the byte at the index register plus a displacement. -/
def Obligations.IndexedMemoryForms : Prop :=
  ∀ (s : State) (ii : Idx),
    let a := s.idxAddr ii
    let m := s.peek a
    let g := { s.regs.past 2 1 with memptr := a }
    let ea := s.code 2 1 ++ [.wait (s.codeAddr 2) 5]
    let inc := inc8 m s.regs.f
    let dec := dec8 m s.regs.f
    s.Ran (idxTable ii 0x34) (s.does { g with f := inc.flags } (ea ++ s.readModifyWrite a 1 inc.res) 23) ∧
    s.Ran (idxTable ii 0x35) (s.does { g with f := dec.flags } (ea ++ s.readModifyWrite a 1 dec.res) 23) ∧
    s.Ran (idxTable ii 0x36)
      (s.does { s.regs.past 2 2 with memptr := a }
        (s.code 2 2 ++ [.wait (s.codeAddr 3) 2, .write a (s.codeByte 3)]) 19) ∧
    (∀ y x, r8 y = some x →
      s.Ran (idxTable ii (opcode 1 y 6)) (s.does (g.set8 x m) (ea ++ [s.rd a]) 19) ∧
      s.Ran (idxTable ii (opcode 1 6 y)) (s.does g (ea ++ [.write a (s.regs.get8 x)]) 19)) ∧
    ∀ y, y < 8 →
      s.Ran (idxTable ii (opcode 2 y 6))
        (s.does (g.takes (aluOut (aluOf y) s.regs.a m s.regs.f)) (ea ++ [s.rd a]) 19)

/-- R454, R455, R103: an index prefix in front of an opcode it does not affect costs its own fetch and the base
instruction runs from the state after it; a prefix row's own effect is that one fetch. How a prefix is read is the
spec's decision (D7, D8; assumptions 9 and 22), so no rule is cited. -/
def Obligations.PrefixesWithoutEffect : Prop :=
  ∀ (s : State) (ii : Idx),
    (∀ x y z, x < 4 → y < 8 → z < 8 → inIndexLists x y z = false →
      opcode x y z ∉ [0xCB, 0xDD, 0xED, 0xFD] →
      ∃ t, exec (idxTable ii (opcode x y z)) s = .next t ∧ exec (baseTable (opcode x y z)) s.fetch = .next t) ∧
    ∀ op ∈ [0xCB, 0xDD, 0xED, 0xFD],
      s.Ran (baseTable op) (s.does (s.regs.past 1 0) (s.code 1 0) 4) ∧
      (op ≠ 0xCB → s.Ran (idxTable ii op) (s.does (s.regs.past 1 0) (s.code 1 0) 4))

/-- R491 to R497: bit operations on the indexed byte, with the copy to a register. That `R` counts two fetches is the
spec's decision D9 (assumption 25), so no rule is cited. -/
def Obligations.IndexedBitOperations : Prop :=
  ∀ (s : State) (ii : Idx) (y : Nat), y < 8 →
    let a := s.idxAddr ii
    let v := s.peek a
    let f := s.regs.f
    let g := { s.regs.past 2 2 with memptr := a }
    let operand := s.code 2 2 ++ [.wait (s.codeAddr 3) 2, s.rd a, .wait a 1]
    let rot := rotate (rotOf y) v f
    let ends := fun (h : Regs) (r : Byte) => s.does h (operand ++ [.write a r]) 23
    s.Ran (idxCbTable ii (opcode 0 y 6)) (ends { g with f := rot.flags } rot.res) ∧
    s.Ran (idxCbTable ii (opcode 2 y 6)) (ends g (resBit y v)) ∧
    s.Ran (idxCbTable ii (opcode 3 y 6)) (ends g (setBit y v)) ∧
    (∀ z, z < 8 →
      s.Ran (idxCbTable ii (opcode 1 y z)) (s.does { g with f := bitFlags y v (hiByte a) f } operand 20)) ∧
    ∀ z x, r8 z = some x →
      s.Ran (idxCbTable ii (opcode 0 y z)) (ends (Regs.set8 { g with f := rot.flags } x rot.res) rot.res) ∧
      s.Ran (idxCbTable ii (opcode 2 y z)) (ends (g.set8 x (resBit y v)) (resBit y v)) ∧
      s.Ran (idxCbTable ii (opcode 3 y z)) (ends (g.set8 x (setBit y v)) (setBit y v))

/-! ## The flags as arithmetic -/

/-- R168, `add8`: the result and every flag of an 8-bit addition. The conditions are the spec's own derivation. -/
def Obligations.FlagsOfAddition : Prop :=
  ∀ (a v : Byte) (c : Bool),
    let n := a.toNat + v.toNat + bitNat c
    let r := BitVec.ofNat 8 n
    add8 a v c =
      ⟨r, flagsOf (r.getLsbD 7) (r == 0) (r.getLsbD 5) (decide (15 < a.toNat % 16 + v.toNat % 16 + bitNat c))
        (r.getLsbD 3) (overflows 8 (a.toInt + v.toInt + bitNat c)) false (decide (255 < n))⟩

/-- R168, `sub8` and `cp8`: the result and every flag of an 8-bit subtraction and of a comparison. The conditions
are the spec's own derivation. -/
def Obligations.FlagsOfSubtraction : Prop :=
  ∀ (a v : Byte) (c : Bool),
    let n : Int := a.toNat - v.toNat - bitNat c
    let r := BitVec.ofInt 8 n
    sub8 a v c =
      ⟨r, flagsOf (r.getLsbD 7) (r == 0) (r.getLsbD 5) (decide (a.toNat % 16 < v.toNat % 16 + bitNat c))
        (r.getLsbD 3) (overflows 8 (a.toInt - v.toInt - bitNat c)) true (decide (n < 0))⟩ ∧
    cp8 a v =
      flagsOf ((a - v).getLsbD 7) (a == v) (v.getLsbD 5) (decide (a.toNat % 16 < v.toNat % 16)) (v.getLsbD 3)
        (overflows 8 (a.toInt - v.toInt)) true (decide (a.toNat < v.toNat))

/-- R149 to R153: the flags of the logic operations and of the 8-bit increment and decrement. -/
def Obligations.FlagsOfLogicAndCounting : Prop :=
  ∀ (a v f : Byte),
    let logic := fun (h : Bool) (r : Byte) =>
      (⟨r, flagsOf (r.getLsbD 7) (r == 0) (r.getLsbD 5) h (r.getLsbD 3) (popcount r % 2 == 0) false false⟩ : AluOut)
    let count := fun (h pv n : Bool) (r : Byte) =>
      (⟨r, flagsOf (r.getLsbD 7) (r == 0) (r.getLsbD 5) h (r.getLsbD 3) pv n (f.getLsbD 0)⟩ : AluOut)
    and8 a v = logic true (a &&& v) ∧
    xor8 a v = logic false (a ^^^ v) ∧
    or8 a v = logic false (a ||| v) ∧
    inc8 v f = count (decide (v.toNat % 16 = 15)) (v == 0x7F) false (v + 1) ∧
    dec8 v f = count (decide (v.toNat % 16 = 0)) (v == 0x80) true (v - 1)

/-- R168, `add16`, `adc16` and `sbc16`: the result and every flag of the 16-bit operations. The conditions are the
spec's own derivation. -/
def Obligations.FlagsOfPairArithmetic : Prop :=
  ∀ (a b : Word) (f : Byte),
    let c := f.getLsbD 0
    let sum := a + b
    let n := a.toNat + b.toNat + bitNat c
    let r := BitVec.ofNat 16 n
    let m : Int := a.toNat - b.toNat - bitNat c
    let d := BitVec.ofInt 16 m
    add16 a b f =
      ⟨sum, flagsOf (f.getLsbD 7) (f.getLsbD 6) (sum.getLsbD 13) (decide (4095 < a.toNat % 4096 + b.toNat % 4096))
        (sum.getLsbD 11) (f.getLsbD 2) false (decide (65535 < a.toNat + b.toNat))⟩ ∧
    adc16 a b f =
      ⟨r, flagsOf (r.getLsbD 15) (r == 0) (r.getLsbD 13)
        (decide (4095 < a.toNat % 4096 + b.toNat % 4096 + bitNat c)) (r.getLsbD 11)
        (overflows 16 (a.toInt + b.toInt + bitNat c)) false (decide (65535 < n))⟩ ∧
    sbc16 a b f =
      ⟨d, flagsOf (d.getLsbD 15) (d == 0) (d.getLsbD 13) (decide (a.toNat % 4096 < b.toNat % 4096 + bitNat c))
        (d.getLsbD 11) (overflows 16 (a.toInt - b.toInt - bitNat c)) true (decide (m < 0))⟩

/-- R249: after an addition or a subtraction of two valid packed decimal bytes, `DAA` gives the valid decimal result
and the decimal carry or borrow. The spec marks it as its own derivation. -/
def Obligations.DecimalAdjustIsDecimal : Prop :=
  ∀ (m n : Nat) (c : Bool), m < 100 → n < 100 →
    let bcd := fun k : Nat => BitVec.ofNat 8 (k / 10 * 16 + k % 10)
    let sum := add8 (bcd m) (bcd n) c
    let diff := sub8 (bcd m) (bcd n) c
    let up := daaOut sum.res sum.flags
    let down := daaOut diff.res diff.flags
    up.res = bcd ((m + n + bitNat c) % 100) ∧ up.flags.getLsbD 0 = decide (99 < m + n + bitNat c) ∧
    down.res = bcd ((100 + m - n - bitNat c) % 100) ∧ down.flags.getLsbD 0 = decide (m < n + bitNat c)

/-! ## Encoding -/

/-- Words written out from the spec's encodings, one or more for each table, decode to what they stand for. -/
def Obligations.WordsOfTheSpecDecode : Prop :=
  decode [0x3E, 0x05] = .ok .ldAImm ∧ decode [0xC6, 0x03] = .ok .addAImm ∧ decode [0x41] = .ok .ldBC ∧
  decode [0x76] = .ok .halt ∧ decode [0xCD, 0x34, 0x12] = .ok .callImm16 ∧ decode [0xCB, 0x37] = .ok .sllA ∧
  decode [0xCB, 0x46] = .ok .bit0AtHL ∧ decode [0xED, 0x43, 0x00, 0x40] = .ok .ldAtAbsBC ∧
  decode [0xED, 0x5D] = .ok (.retn 3) ∧ decode [0xED, 0xB0] = .ok .ldir ∧ decode [0xED, 0xFD] = .ok (.nopEd 0xFD) ∧
  decode [0xDD, 0x66, 0x02] = .ok .ldHAtIXd ∧ decode [0xFD, 0x7D] = .ok .ldAIYL ∧
  decode [0xDD, 0x36, 0xFE, 0x5A] = .ok .ldAtIXdImm ∧ decode [0xFD, 0xEB] = .ok (.exDEHLPfx .iy) ∧
  decode [0xFD, 0xCB, 0xFE, 0x3F] = .ok .ldASrlAtIYd ∧ decode [0xDD, 0xCB, 0x05, 0x7E] = .ok (.bit7AtIXd 6)

/-- The decoder reads back what the encoder writes, for every well-formed instruction and whatever its operand
bytes. -/
def Obligations.DecodeOfEncode : Prop :=
  ∀ (i : Instr) (u v : Byte), i.wellFormed = true → decode (encode i u v) = .ok i

/-- R116, R117: every four bytes begin with a well-formed instruction, and no bit of its bytes is dropped: the encoder
gives them back, from the instruction and its operand bytes. A prefix row stands for the prefix alone. -/
def Obligations.EveryBytesDecode : Prop :=
  ∀ (b0 b1 b2 b3 : Byte), ∃ i,
    decode [b0, b1, b2, b3] = .ok i ∧ i.wellFormed = true ∧
      (i.isPrefix = false → ∃ u v, encode i u v = [b0, b1, b2, b3].take (codeSize b0 b1))

/-! ## Memory and time -/

/-- R63, R64: a timed read changes nothing but time and the trace; a timed store charges its time, is recorded, and
changes the one byte, unless the platform ignores stores there. -/
def Obligations.TimedReadAndStore : Prop :=
  ∀ (s : State) (a : Word) (v : Byte),
    let c := s.platform.afterContend a 3 1 s.cycles
    s.memRead a = { s with cycles := c, bus := .memRead a (s.peek a) c :: s.bus } ∧
    s.memWrite a v = { s with cycles := c, bus := .memWrite a v c :: s.bus, mem := (s.memWrite a v).mem } ∧
    (s.mem.wf = true → (s.memWrite a v).mem.wf = true ∧ s.Stores (s.memWrite a v) [(a, v)])

/-- Equal memories are equal data: two memories in canonical form that read alike at every address are the same
list. -/
def Obligations.MemoryIsCanonical : Prop :=
  ∀ (m n : Memory), m.wf = true → n.wf = true → (∀ a : Word, m.read a.toNat = n.read a.toNat) → m = n

/-- R66: `Contend` moves the counter and nothing else; contention is looked up again after each unit. -/
def Obligations.Contention : Prop :=
  ∀ (s : State) (a : Word) (d n : Nat),
    s.contend a d n = { s with cycles := (s.contend a d n).cycles } ∧
    (s.platform.isContended a = false → (s.contend a d n).cycles = s.cycles + d * n) ∧
    (s.platform.isContended a = true →
      s.contend a d 0 = s ∧
      s.contend a d (n + 1) =
        ({ s with cycles := s.cycles + s.platform.waitStates s.cycles + d } : State).contend a d n)

/-! ## The step -/

/-- R103, R500: with no interrupt to take and not halted, the step runs the instruction that the bytes at `PC` decode to,
in the state with the EI latch cleared; a prefix row is spent by its own fetch and the same step goes on with the byte
after it. `checkCounter` refuses a counter that has left its type (assumption 11). -/
def Obligations.StepRunsTheDecodedInstruction : Prop :=
  ∀ (s : State) (i : Instr),
    let at4 := fun u : State => decode [u.codeByte 0, u.codeByte 1, u.codeByte 2, u.codeByte 3]
    (s.counterOk = true → s.ctl.nmiPending = false → s.ctl.halted = false →
      (s.ctl.interruptPending = true → s.ctl.iff1 = true → s.ctl.eiJustExecuted = true) →
      at4 s = .ok i →
      let u := s.setCtl { s.ctl with eiJustExecuted := false }
      step s = checkCounter (if i.isPrefix then u.fetch.runPrefixes 65535 else exec i u)) ∧
    ∀ k, at4 s = .ok i →
      s.runPrefixes (k + 1) = if i.isPrefix then s.fetch.runPrefixes k else exec i s

/-- R504, R505, R507, R510: maskable acceptance. The word of mode 2 is read after the push, and the parameters P5 and P7 are
the platform's (decisions D12 and D14, assumptions 14 and 15). -/
def Obligations.MaskableAcceptance : Prop :=
  ∀ (s : State), s.counterOk = true → s.ctl.nmiPending = false → s.ctl.interruptPending = true →
    s.ctl.iff1 = true → s.ctl.eiJustExecuted = false →
    let sp := s.regs.sp
    let pc := if s.ctl.halted then s.regs.pc + 1 else s.regs.pc
    let r := if s.platform.ackIncrementsR then nextR s.regs.r else s.regs.r
    let stacked := (s.poke (sp - 1) (hiByte pc)).poke (sp - 2) (loByte pc)
    let vector := mkWord s.regs.i 0xFF
    let mode2 := s.ctl.interruptMode == .im2
    let target := if mode2 then stacked.peek16 vector else 0x0038
    let e :=
      { s.does (Regs.jump { s.regs with sp := sp - 2, r := r } target)
          (pushed sp pc ++ (if mode2 then stacked.rd16 vector else []) ++ [.ack s.platform.intAckTStates])
          (6 + (if mode2 then 6 else 0) + s.platform.intAckTStates) with
        ctl := { s.ctl with interruptPending := false, iff1 := false, iff2 := false, halted := false } }
    ∃ t, e.Of s t ∧ step s = checkCounter (.next t)

/-- R503, R506: non-maskable acceptance, before a maskable request and whatever `iff1`, the EI latch and the halted state
are. Its details are the spec's decisions D13 and D15 (assumptions 14 and 20), so no rule is cited. -/
def Obligations.NonMaskableAcceptance : Prop :=
  ∀ (s : State), s.counterOk = true → s.ctl.nmiPending = true →
    let sp := s.regs.sp
    let pc := if s.ctl.halted then s.regs.pc + 1 else s.regs.pc
    let r := if s.platform.ackIncrementsR then nextR s.regs.r else s.regs.r
    let e :=
      { s.does (Regs.jump { s.regs with sp := sp - 2, r := r } 0x0066)
          (pushed sp pc ++ [.ack s.platform.nmiAckTStates]) (6 + s.platform.nmiAckTStates) with
        ctl := { s.ctl with nmiPending := false, iff1 := false, halted := false, eiJustExecuted := false } }
    ∃ t, e.Of s t ∧ step s = checkCounter (.next t)

/-- R501: the step after `EI` runs the instruction at `PC` although a request is pending, leaves the request latched, and,
unless that instruction is `EI` again, a request is taken by the step after it if `iff1` is still set. That the latch
is cleared at the start of every step is the spec's decision D11 (assumption 20). -/
def Obligations.EiShadow : Prop :=
  ∀ (s t : State), s.ctl.nmiPending = false → s.ctl.interruptPending = true → s.ctl.eiJustExecuted = true →
    s.ctl.halted = false → step s = .next t →
    (s.setCtl { s.ctl with eiJustExecuted := false }).runInstr = .next t ∧ t.ctl.interruptPending = true ∧
      (t.ctl.iff1 = true → t.ctl.eiJustExecuted = false → step t = checkCounter (.next t.acceptInt))

/-- R509: a halted step that takes no interrupt costs one opcode fetch cycle at `PC` and changes nothing else; where the
byte at `PC` is `HALT` that is what running it gives. The representation is the spec's decision D10 (assumption 7). -/
def Obligations.HaltedStep : Prop :=
  ∀ (s : State), s.counterOk = true → s.ctl.nmiPending = false → s.ctl.halted = true →
    (s.ctl.interruptPending = true → s.ctl.iff1 = true → s.ctl.eiJustExecuted = true) →
    let e :=
      { s.does { s.regs with r := nextR s.regs.r } [.fetch s.regs.pc] 4 with
        ctl := { s.ctl with eiJustExecuted := false } }
    (∃ t, e.Of s t ∧ step s = checkCounter (.next t)) ∧
    exec (baseTable 0x76) s = .next s.haltedCycle

/-- R512, U1, U3: a step from a counter outside its type is refused, and so is one that would leave it
(decision D24, assumption 11). -/
def Obligations.CounterPrecondition : Prop :=
  ∀ (s t : State),
    (s.cycles < 0 ∨ 2 ^ 63 ≤ s.cycles → step s = .refused .counterOutOfRange) ∧
    (step s = .next t → 0 ≤ s.cycles ∧ s.cycles + 4 ≤ t.cycles ∧ t.cycles < 2 ^ 63)

/-- A step completes whenever memory is not all index prefixes, nothing is contended and the counter has room for the
longest chain of prefixes. The bound of 65,536 prefixes and the refusal of a counter that leaves `i64`, which the
hypotheses keep clear of, are assumptions 9 and 11, so no rule is cited. -/
def Obligations.StepCompletes : Prop :=
  ∀ (s : State), s.Uncontended → 0 ≤ s.cycles →
    s.cycles + 4 * 65536 + 64 + s.platform.intAckTStates + s.platform.nmiAckTStates < 2 ^ 63 →
    (∃ a : Word, s.peek a ≠ 0xDD ∧ s.peek a ≠ 0xFD) → ∃ t, step s = .next t

/-- The invariant of the model holds after reset, with the trace in order. -/
def Obligations.ResetMeetsTheInvariant : Prop := State.reset.Inv ∧ State.reset.TraceOrdered

/-- Every step keeps the invariant: canonical memory, the counter inside its type. -/
def Obligations.StepKeepsTheInvariant : Prop := ∀ (s t : State), s.Inv → step s = .next t → t.Inv

/-- Every step keeps the trace in order and only adds to it, and never changes the platform. -/
def Obligations.StepKeepsTheTraceOrdered : Prop :=
  ∀ (s t : State), s.TraceOrdered → step s = .next t →
    t.TraceOrdered ∧ s.bus <:+ t.bus ∧ t.platform = s.platform

/-! ## Rules about the whole machine -/

/-- R24: no instruction but `EX AF,AF'` and `EXX`, prefixed or not, reads or writes the shadow bank. -/
def Obligations.ShadowBankIsInert : Prop :=
  ∀ (i : Instr) (s : State) (h : Shadow),
    i ∉ [baseTable 0x08, ddTable 0x08, fdTable 0x08, baseTable 0xD9, ddTable 0xD9, fdTable 0xD9] →
    ∃ t, exec i s = .next t ∧ t.shadow = s.shadow ∧ exec i (s.setShadow h) = .next (t.setShadow h)

/-- R25, R118: without an index prefix no instruction reads or writes `IX` or `IY`, the ED table included. -/
def Obligations.IndexRegistersNeedAPrefix : Prop :=
  ∀ (op : Byte) (s : State) (x y : Word) (i : Instr), i ∈ [baseTable op, cbTable op, edTable op] →
    let moved := fun u : State => (u.setReg16 .ix x).setReg16 .iy y
    ∃ t, exec i s = .next t ∧ t.reg16 .ix = s.reg16 .ix ∧ t.reg16 .iy = s.reg16 .iy ∧
      exec i (moved s) = .next (moved t)

/-- R30: `MEMPTR` reaches no architectural state but through `BIT b,(HL)`: any other instruction, run with another
`MEMPTR`, leaves the same state but for `MEMPTR` (decision D26, assumption 21). -/
def Obligations.MemptrIsSeenByBitAtHLAlone : Prop :=
  ∀ (i : Instr) (s : State) (w : Word), (∀ b, b < 8 → i ≠ cbTable (opcode 1 b 6)) →
    ∃ t m, exec i s = .next t ∧ exec i (s.setMemptr w) = .next (t.setMemptr m)

/-- R28, R29, R31 to R34, R37: which instructions write each control cell, `I`, and bit 7 of `R`. -/
def Obligations.ControlCellWriters : Prop :=
  ∀ (i : Instr) (s t : State), i.wellFormed = true → exec i s = .next t →
    let enables := [baseTable 0xFB, ddTable 0xFB, fdTable 0xFB]
    let disables := [baseTable 0xF3, ddTable 0xF3, fdTable 0xF3]
    (i ∉ enables → i ∉ disables → t.ctl.iff2 = s.ctl.iff2 ∧
      ((∀ y, y < 8 → i ≠ edTable (opcode 1 y 5)) → t.ctl.iff1 = s.ctl.iff1)) ∧
    (i ∉ enables → t.ctl.eiJustExecuted = s.ctl.eiJustExecuted) ∧
    ((∀ y, y < 8 → i ≠ edTable (opcode 1 y 6)) → t.ctl.interruptMode = s.ctl.interruptMode) ∧
    (i ∉ [baseTable 0x76, ddTable 0x76, fdTable 0x76] → t.ctl.halted = s.ctl.halted) ∧
    (i ≠ edTable 0x47 → t.regs.i = s.regs.i) ∧
    (i ≠ edTable 0x4F → t.regs.r.getLsbD 7 = s.regs.r.getLsbD 7)

/-- R502: no instruction reads or writes either request latch (decision D16, assumption 20). -/
def Obligations.RequestLatchesAreInert : Prop :=
  ∀ (i : Instr) (s : State) (p q : Bool),
    let latched := fun u : State => u.setCtl { u.ctl with interruptPending := p, nmiPending := q }
    ∃ t, exec i s = .next t ∧ t.ctl.interruptPending = s.ctl.interruptPending ∧
      t.ctl.nmiPending = s.ctl.nmiPending ∧ exec i (latched s) = .next (latched t)

/-! ## The host -/

/-- R41, R540: `restart()` gives every cell its reset value and touches nothing else. Which registers take the fill value
and the other rows marked D6 are the spec's decision (assumptions 1 and 2), so no rule is cited. -/
def Obligations.Restart : Prop :=
  ∀ (s : State), ∃ t, hostCall .restart s = .next t ∧
    t.regs.pc = 0x0000 ∧ t.ctl.iff1 = false ∧ t.ctl.iff2 = false ∧ t.ctl.interruptMode = .im0 ∧
    (∀ p, t.regs.get16 p = s.platform.resetFill) ∧
    (∀ p, p = .afAlt ∨ p = .bcAlt ∨ p = .deAlt ∨ p = .hlAlt → t.readPair p = s.platform.resetFill) ∧
    t.readPair .ir = 0x0000 ∧ t.regs.memptr = 0x0000 ∧ t.ctl.halted = false ∧ t.ctl.interruptPending = false ∧
    t.ctl.nmiPending = false ∧ t.ctl.eiJustExecuted = false ∧
    t = { s with regs := t.regs, shadow := t.shadow, ctl := t.ctl }

/-- R33, R35, R36, R40, R511: the host's calls: a register written reads back and no other changes, each request sets its
own latch alone, and a mode outside 0, 1, 2 is refused. That the latches have no other access is decision D16 (assumption
20). -/
def Obligations.HostCalls : Prop :=
  ∀ (s : State) (p q : HostPair) (w : Word) (m : Nat),
    (∃ t, hostCall (.writePair p w) s = .next t ∧ t.readPair p = w ∧ (q ≠ p → t.readPair q = s.readPair q) ∧
      t = { s with regs := t.regs, shadow := t.shadow }) ∧
    hostCall .interrupt s = .next (s.setCtl { s.ctl with interruptPending := true }) ∧
    hostCall .nmi s = .next (s.setCtl { s.ctl with nmiPending := true }) ∧
    (2 < m → hostCall (.writeMode m) s = .refused .badInterruptMode)
end

