-- ==== Sys2Proof/Laws/State.lean ====
section
/-! SUPPORT. The fields of a state after each update: one lemma for each field and update, true by unfolding, so
that no later proof unfolds a record update. -/

namespace Sys2Proof.Machine.State

/-! ### `setReg8` -/

@[simp] theorem setReg8_regs (s : State) (x : Reg8) (v : Byte) : (s.setReg8 x v).regs = s.regs.set8 x v := rfl
@[simp] theorem setReg8_shadow (s : State) (x : Reg8) (v : Byte) : (s.setReg8 x v).shadow = s.shadow := rfl
@[simp] theorem setReg8_ctl (s : State) (x : Reg8) (v : Byte) : (s.setReg8 x v).ctl = s.ctl := rfl
@[simp] theorem setReg8_cycles (s : State) (x : Reg8) (v : Byte) : (s.setReg8 x v).cycles = s.cycles := rfl
@[simp] theorem setReg8_mem (s : State) (x : Reg8) (v : Byte) : (s.setReg8 x v).mem = s.mem := rfl
@[simp] theorem setReg8_bus (s : State) (x : Reg8) (v : Byte) : (s.setReg8 x v).bus = s.bus := rfl
@[simp] theorem setReg8_portAnswers (s : State) (x : Reg8) (v : Byte) : (s.setReg8 x v).portAnswers = s.portAnswers := rfl
@[simp] theorem setReg8_portReads (s : State) (x : Reg8) (v : Byte) : (s.setReg8 x v).portReads = s.portReads := rfl
@[simp] theorem setReg8_platform (s : State) (x : Reg8) (v : Byte) : (s.setReg8 x v).platform = s.platform := rfl
@[simp] theorem setReg8_peek (s : State) (x : Reg8) (v : Byte) (b : Word) : (s.setReg8 x v).peek b = s.peek b := rfl
@[simp] theorem setReg8_portByte (s : State) (x : Reg8) (v : Byte) (q : Word) : (s.setReg8 x v).portByte q = s.portByte q := by simp only [portByte, setReg8_portAnswers, setReg8_portReads]

/-! ### `setReg16` -/

@[simp] theorem setReg16_regs (s : State) (p : Reg16) (w : Word) : (s.setReg16 p w).regs = s.regs.set16 p w := rfl
@[simp] theorem setReg16_shadow (s : State) (p : Reg16) (w : Word) : (s.setReg16 p w).shadow = s.shadow := rfl
@[simp] theorem setReg16_ctl (s : State) (p : Reg16) (w : Word) : (s.setReg16 p w).ctl = s.ctl := rfl
@[simp] theorem setReg16_cycles (s : State) (p : Reg16) (w : Word) : (s.setReg16 p w).cycles = s.cycles := rfl
@[simp] theorem setReg16_mem (s : State) (p : Reg16) (w : Word) : (s.setReg16 p w).mem = s.mem := rfl
@[simp] theorem setReg16_bus (s : State) (p : Reg16) (w : Word) : (s.setReg16 p w).bus = s.bus := rfl
@[simp] theorem setReg16_portAnswers (s : State) (p : Reg16) (w : Word) : (s.setReg16 p w).portAnswers = s.portAnswers := rfl
@[simp] theorem setReg16_portReads (s : State) (p : Reg16) (w : Word) : (s.setReg16 p w).portReads = s.portReads := rfl
@[simp] theorem setReg16_platform (s : State) (p : Reg16) (w : Word) : (s.setReg16 p w).platform = s.platform := rfl
@[simp] theorem setReg16_peek (s : State) (p : Reg16) (w : Word) (b : Word) : (s.setReg16 p w).peek b = s.peek b := rfl
@[simp] theorem setReg16_portByte (s : State) (p : Reg16) (w : Word) (q : Word) : (s.setReg16 p w).portByte q = s.portByte q := by simp only [portByte, setReg16_portAnswers, setReg16_portReads]

/-! ### `setA` -/

@[simp] theorem setA_regs (s : State) (v : Byte) : (s.setA v).regs = { s.regs with a := v } := rfl
@[simp] theorem setA_shadow (s : State) (v : Byte) : (s.setA v).shadow = s.shadow := rfl
@[simp] theorem setA_ctl (s : State) (v : Byte) : (s.setA v).ctl = s.ctl := rfl
@[simp] theorem setA_cycles (s : State) (v : Byte) : (s.setA v).cycles = s.cycles := rfl
@[simp] theorem setA_mem (s : State) (v : Byte) : (s.setA v).mem = s.mem := rfl
@[simp] theorem setA_bus (s : State) (v : Byte) : (s.setA v).bus = s.bus := rfl
@[simp] theorem setA_portAnswers (s : State) (v : Byte) : (s.setA v).portAnswers = s.portAnswers := rfl
@[simp] theorem setA_portReads (s : State) (v : Byte) : (s.setA v).portReads = s.portReads := rfl
@[simp] theorem setA_platform (s : State) (v : Byte) : (s.setA v).platform = s.platform := rfl
@[simp] theorem setA_peek (s : State) (v : Byte) (b : Word) : (s.setA v).peek b = s.peek b := rfl
@[simp] theorem setA_portByte (s : State) (v : Byte) (q : Word) : (s.setA v).portByte q = s.portByte q := by simp only [portByte, setA_portAnswers, setA_portReads]

/-! ### `setF` -/

@[simp] theorem setF_regs (s : State) (v : Byte) : (s.setF v).regs = { s.regs with f := v } := rfl
@[simp] theorem setF_shadow (s : State) (v : Byte) : (s.setF v).shadow = s.shadow := rfl
@[simp] theorem setF_ctl (s : State) (v : Byte) : (s.setF v).ctl = s.ctl := rfl
@[simp] theorem setF_cycles (s : State) (v : Byte) : (s.setF v).cycles = s.cycles := rfl
@[simp] theorem setF_mem (s : State) (v : Byte) : (s.setF v).mem = s.mem := rfl
@[simp] theorem setF_bus (s : State) (v : Byte) : (s.setF v).bus = s.bus := rfl
@[simp] theorem setF_portAnswers (s : State) (v : Byte) : (s.setF v).portAnswers = s.portAnswers := rfl
@[simp] theorem setF_portReads (s : State) (v : Byte) : (s.setF v).portReads = s.portReads := rfl
@[simp] theorem setF_platform (s : State) (v : Byte) : (s.setF v).platform = s.platform := rfl
@[simp] theorem setF_peek (s : State) (v : Byte) (b : Word) : (s.setF v).peek b = s.peek b := rfl
@[simp] theorem setF_portByte (s : State) (v : Byte) (q : Word) : (s.setF v).portByte q = s.portByte q := by simp only [portByte, setF_portAnswers, setF_portReads]

/-! ### `setPc` -/

@[simp] theorem setPc_regs (s : State) (w : Word) : (s.setPc w).regs = { s.regs with pc := w } := rfl
@[simp] theorem setPc_shadow (s : State) (w : Word) : (s.setPc w).shadow = s.shadow := rfl
@[simp] theorem setPc_ctl (s : State) (w : Word) : (s.setPc w).ctl = s.ctl := rfl
@[simp] theorem setPc_cycles (s : State) (w : Word) : (s.setPc w).cycles = s.cycles := rfl
@[simp] theorem setPc_mem (s : State) (w : Word) : (s.setPc w).mem = s.mem := rfl
@[simp] theorem setPc_bus (s : State) (w : Word) : (s.setPc w).bus = s.bus := rfl
@[simp] theorem setPc_portAnswers (s : State) (w : Word) : (s.setPc w).portAnswers = s.portAnswers := rfl
@[simp] theorem setPc_portReads (s : State) (w : Word) : (s.setPc w).portReads = s.portReads := rfl
@[simp] theorem setPc_platform (s : State) (w : Word) : (s.setPc w).platform = s.platform := rfl
@[simp] theorem setPc_peek (s : State) (w : Word) (b : Word) : (s.setPc w).peek b = s.peek b := rfl
@[simp] theorem setPc_portByte (s : State) (w : Word) (q : Word) : (s.setPc w).portByte q = s.portByte q := by simp only [portByte, setPc_portAnswers, setPc_portReads]

/-! ### `setSp` -/

@[simp] theorem setSp_regs (s : State) (w : Word) : (s.setSp w).regs = { s.regs with sp := w } := rfl
@[simp] theorem setSp_shadow (s : State) (w : Word) : (s.setSp w).shadow = s.shadow := rfl
@[simp] theorem setSp_ctl (s : State) (w : Word) : (s.setSp w).ctl = s.ctl := rfl
@[simp] theorem setSp_cycles (s : State) (w : Word) : (s.setSp w).cycles = s.cycles := rfl
@[simp] theorem setSp_mem (s : State) (w : Word) : (s.setSp w).mem = s.mem := rfl
@[simp] theorem setSp_bus (s : State) (w : Word) : (s.setSp w).bus = s.bus := rfl
@[simp] theorem setSp_portAnswers (s : State) (w : Word) : (s.setSp w).portAnswers = s.portAnswers := rfl
@[simp] theorem setSp_portReads (s : State) (w : Word) : (s.setSp w).portReads = s.portReads := rfl
@[simp] theorem setSp_platform (s : State) (w : Word) : (s.setSp w).platform = s.platform := rfl
@[simp] theorem setSp_peek (s : State) (w : Word) (b : Word) : (s.setSp w).peek b = s.peek b := rfl
@[simp] theorem setSp_portByte (s : State) (w : Word) (q : Word) : (s.setSp w).portByte q = s.portByte q := by simp only [portByte, setSp_portAnswers, setSp_portReads]

/-! ### `setMemptr` -/

@[simp] theorem setMemptr_regs (s : State) (w : Word) : (s.setMemptr w).regs = { s.regs with memptr := w } := rfl
@[simp] theorem setMemptr_shadow (s : State) (w : Word) : (s.setMemptr w).shadow = s.shadow := rfl
@[simp] theorem setMemptr_ctl (s : State) (w : Word) : (s.setMemptr w).ctl = s.ctl := rfl
@[simp] theorem setMemptr_cycles (s : State) (w : Word) : (s.setMemptr w).cycles = s.cycles := rfl
@[simp] theorem setMemptr_mem (s : State) (w : Word) : (s.setMemptr w).mem = s.mem := rfl
@[simp] theorem setMemptr_bus (s : State) (w : Word) : (s.setMemptr w).bus = s.bus := rfl
@[simp] theorem setMemptr_portAnswers (s : State) (w : Word) : (s.setMemptr w).portAnswers = s.portAnswers := rfl
@[simp] theorem setMemptr_portReads (s : State) (w : Word) : (s.setMemptr w).portReads = s.portReads := rfl
@[simp] theorem setMemptr_platform (s : State) (w : Word) : (s.setMemptr w).platform = s.platform := rfl
@[simp] theorem setMemptr_peek (s : State) (w : Word) (b : Word) : (s.setMemptr w).peek b = s.peek b := rfl
@[simp] theorem setMemptr_portByte (s : State) (w : Word) (q : Word) : (s.setMemptr w).portByte q = s.portByte q := by simp only [portByte, setMemptr_portAnswers, setMemptr_portReads]

/-! ### `setCtl` -/

@[simp] theorem setCtl_regs (s : State) (c : Control) : (s.setCtl c).regs = s.regs := rfl
@[simp] theorem setCtl_shadow (s : State) (c : Control) : (s.setCtl c).shadow = s.shadow := rfl
@[simp] theorem setCtl_ctl (s : State) (c : Control) : (s.setCtl c).ctl = c := rfl
@[simp] theorem setCtl_cycles (s : State) (c : Control) : (s.setCtl c).cycles = s.cycles := rfl
@[simp] theorem setCtl_mem (s : State) (c : Control) : (s.setCtl c).mem = s.mem := rfl
@[simp] theorem setCtl_bus (s : State) (c : Control) : (s.setCtl c).bus = s.bus := rfl
@[simp] theorem setCtl_portAnswers (s : State) (c : Control) : (s.setCtl c).portAnswers = s.portAnswers := rfl
@[simp] theorem setCtl_portReads (s : State) (c : Control) : (s.setCtl c).portReads = s.portReads := rfl
@[simp] theorem setCtl_platform (s : State) (c : Control) : (s.setCtl c).platform = s.platform := rfl
@[simp] theorem setCtl_peek (s : State) (c : Control) (b : Word) : (s.setCtl c).peek b = s.peek b := rfl
@[simp] theorem setCtl_reg8 (s : State) (c : Control) (y : Reg8) : (s.setCtl c).reg8 y = s.reg8 y := rfl
@[simp] theorem setCtl_reg16 (s : State) (c : Control) (q : Reg16) : (s.setCtl c).reg16 q = s.reg16 q := rfl
@[simp] theorem setCtl_portByte (s : State) (c : Control) (q : Word) : (s.setCtl c).portByte q = s.portByte q := by simp only [portByte, setCtl_portAnswers, setCtl_portReads]

/-! ### `setShadow` -/

@[simp] theorem setShadow_regs (s : State) (h : Shadow) : (s.setShadow h).regs = s.regs := rfl
@[simp] theorem setShadow_shadow (s : State) (h : Shadow) : (s.setShadow h).shadow = h := rfl
@[simp] theorem setShadow_ctl (s : State) (h : Shadow) : (s.setShadow h).ctl = s.ctl := rfl
@[simp] theorem setShadow_cycles (s : State) (h : Shadow) : (s.setShadow h).cycles = s.cycles := rfl
@[simp] theorem setShadow_mem (s : State) (h : Shadow) : (s.setShadow h).mem = s.mem := rfl
@[simp] theorem setShadow_bus (s : State) (h : Shadow) : (s.setShadow h).bus = s.bus := rfl
@[simp] theorem setShadow_portAnswers (s : State) (h : Shadow) : (s.setShadow h).portAnswers = s.portAnswers := rfl
@[simp] theorem setShadow_portReads (s : State) (h : Shadow) : (s.setShadow h).portReads = s.portReads := rfl
@[simp] theorem setShadow_platform (s : State) (h : Shadow) : (s.setShadow h).platform = s.platform := rfl
@[simp] theorem setShadow_peek (s : State) (h : Shadow) (b : Word) : (s.setShadow h).peek b = s.peek b := rfl
@[simp] theorem setShadow_reg8 (s : State) (h : Shadow) (y : Reg8) : (s.setShadow h).reg8 y = s.reg8 y := rfl
@[simp] theorem setShadow_reg16 (s : State) (h : Shadow) (q : Reg16) : (s.setShadow h).reg16 q = s.reg16 q := rfl
@[simp] theorem setShadow_portByte (s : State) (h : Shadow) (q : Word) : (s.setShadow h).portByte q = s.portByte q := by simp only [portByte, setShadow_portAnswers, setShadow_portReads]

/-! ### `spend` -/

@[simp] theorem spend_regs (s : State) (n : Nat) : (s.spend n).regs = s.regs := rfl
@[simp] theorem spend_shadow (s : State) (n : Nat) : (s.spend n).shadow = s.shadow := rfl
@[simp] theorem spend_ctl (s : State) (n : Nat) : (s.spend n).ctl = s.ctl := rfl
@[simp] theorem spend_cycles (s : State) (n : Nat) : (s.spend n).cycles = s.cycles + n := rfl
@[simp] theorem spend_mem (s : State) (n : Nat) : (s.spend n).mem = s.mem := rfl
@[simp] theorem spend_bus (s : State) (n : Nat) : (s.spend n).bus = s.bus := rfl
@[simp] theorem spend_portAnswers (s : State) (n : Nat) : (s.spend n).portAnswers = s.portAnswers := rfl
@[simp] theorem spend_portReads (s : State) (n : Nat) : (s.spend n).portReads = s.portReads := rfl
@[simp] theorem spend_platform (s : State) (n : Nat) : (s.spend n).platform = s.platform := rfl
@[simp] theorem spend_peek (s : State) (n : Nat) (b : Word) : (s.spend n).peek b = s.peek b := rfl
@[simp] theorem spend_reg8 (s : State) (n : Nat) (y : Reg8) : (s.spend n).reg8 y = s.reg8 y := rfl
@[simp] theorem spend_reg16 (s : State) (n : Nat) (q : Reg16) : (s.spend n).reg16 q = s.reg16 q := rfl
@[simp] theorem spend_portByte (s : State) (n : Nat) (q : Word) : (s.spend n).portByte q = s.portByte q := by simp only [portByte, spend_portAnswers, spend_portReads]

/-! ### `contend` -/

@[simp] theorem contend_regs (s : State) (a : Word) (d n : Nat) : (s.contend a d n).regs = s.regs := rfl
@[simp] theorem contend_shadow (s : State) (a : Word) (d n : Nat) : (s.contend a d n).shadow = s.shadow := rfl
@[simp] theorem contend_ctl (s : State) (a : Word) (d n : Nat) : (s.contend a d n).ctl = s.ctl := rfl
@[simp] theorem contend_cycles (s : State) (a : Word) (d n : Nat) : (s.contend a d n).cycles = s.platform.afterContend a d n s.cycles := rfl
@[simp] theorem contend_mem (s : State) (a : Word) (d n : Nat) : (s.contend a d n).mem = s.mem := rfl
@[simp] theorem contend_bus (s : State) (a : Word) (d n : Nat) : (s.contend a d n).bus = s.bus := rfl
@[simp] theorem contend_portAnswers (s : State) (a : Word) (d n : Nat) : (s.contend a d n).portAnswers = s.portAnswers := rfl
@[simp] theorem contend_portReads (s : State) (a : Word) (d n : Nat) : (s.contend a d n).portReads = s.portReads := rfl
@[simp] theorem contend_platform (s : State) (a : Word) (d n : Nat) : (s.contend a d n).platform = s.platform := rfl
@[simp] theorem contend_peek (s : State) (a : Word) (d n : Nat) (b : Word) : (s.contend a d n).peek b = s.peek b := rfl
@[simp] theorem contend_reg8 (s : State) (a : Word) (d n : Nat) (y : Reg8) : (s.contend a d n).reg8 y = s.reg8 y := rfl
@[simp] theorem contend_reg16 (s : State) (a : Word) (d n : Nat) (q : Reg16) : (s.contend a d n).reg16 q = s.reg16 q := rfl
@[simp] theorem contend_portByte (s : State) (a : Word) (d n : Nat) (q : Word) : (s.contend a d n).portByte q = s.portByte q := by simp only [portByte, contend_portAnswers, contend_portReads]

/-! ### `record` -/

@[simp] theorem record_regs (s : State) (e : BusEvent) : (s.record e).regs = s.regs := rfl
@[simp] theorem record_shadow (s : State) (e : BusEvent) : (s.record e).shadow = s.shadow := rfl
@[simp] theorem record_ctl (s : State) (e : BusEvent) : (s.record e).ctl = s.ctl := rfl
@[simp] theorem record_cycles (s : State) (e : BusEvent) : (s.record e).cycles = s.cycles := rfl
@[simp] theorem record_mem (s : State) (e : BusEvent) : (s.record e).mem = s.mem := rfl
@[simp] theorem record_bus (s : State) (e : BusEvent) : (s.record e).bus = e :: s.bus := rfl
@[simp] theorem record_portAnswers (s : State) (e : BusEvent) : (s.record e).portAnswers = s.portAnswers := rfl
@[simp] theorem record_portReads (s : State) (e : BusEvent) : (s.record e).portReads = s.portReads := rfl
@[simp] theorem record_platform (s : State) (e : BusEvent) : (s.record e).platform = s.platform := rfl
@[simp] theorem record_peek (s : State) (e : BusEvent) (b : Word) : (s.record e).peek b = s.peek b := rfl
@[simp] theorem record_reg8 (s : State) (e : BusEvent) (y : Reg8) : (s.record e).reg8 y = s.reg8 y := rfl
@[simp] theorem record_reg16 (s : State) (e : BusEvent) (q : Reg16) : (s.record e).reg16 q = s.reg16 q := rfl
@[simp] theorem record_portByte (s : State) (e : BusEvent) (q : Word) : (s.record e).portByte q = s.portByte q := by simp only [portByte, record_portAnswers, record_portReads]

/-! ### `poke` -/

@[simp] theorem poke_regs (s : State) (a : Word) (v : Byte) : (s.poke a v).regs = s.regs := rfl
@[simp] theorem poke_shadow (s : State) (a : Word) (v : Byte) : (s.poke a v).shadow = s.shadow := rfl
@[simp] theorem poke_ctl (s : State) (a : Word) (v : Byte) : (s.poke a v).ctl = s.ctl := rfl
@[simp] theorem poke_cycles (s : State) (a : Word) (v : Byte) : (s.poke a v).cycles = s.cycles := rfl
@[simp] theorem poke_mem (s : State) (a : Word) (v : Byte) : (s.poke a v).mem = if s.platform.isReadOnly a then s.mem else s.mem.write a.toNat v := rfl
@[simp] theorem poke_bus (s : State) (a : Word) (v : Byte) : (s.poke a v).bus = s.bus := rfl
@[simp] theorem poke_portAnswers (s : State) (a : Word) (v : Byte) : (s.poke a v).portAnswers = s.portAnswers := rfl
@[simp] theorem poke_portReads (s : State) (a : Word) (v : Byte) : (s.poke a v).portReads = s.portReads := rfl
@[simp] theorem poke_platform (s : State) (a : Word) (v : Byte) : (s.poke a v).platform = s.platform := rfl
@[simp] theorem poke_reg8 (s : State) (a : Word) (v : Byte) (y : Reg8) : (s.poke a v).reg8 y = s.reg8 y := rfl
@[simp] theorem poke_reg16 (s : State) (a : Word) (v : Byte) (q : Reg16) : (s.poke a v).reg16 q = s.reg16 q := rfl
@[simp] theorem poke_portByte (s : State) (a : Word) (v : Byte) (q : Word) : (s.poke a v).portByte q = s.portByte q := by simp only [portByte, poke_portAnswers, poke_portReads]

/-! ### `memRead` -/

@[simp] theorem memRead_regs (s : State) (a : Word) : (s.memRead a).regs = s.regs := rfl
@[simp] theorem memRead_shadow (s : State) (a : Word) : (s.memRead a).shadow = s.shadow := rfl
@[simp] theorem memRead_ctl (s : State) (a : Word) : (s.memRead a).ctl = s.ctl := rfl
@[simp] theorem memRead_cycles (s : State) (a : Word) : (s.memRead a).cycles = s.platform.afterContend a 3 1 s.cycles := rfl
@[simp] theorem memRead_mem (s : State) (a : Word) : (s.memRead a).mem = s.mem := rfl
@[simp] theorem memRead_bus (s : State) (a : Word) : (s.memRead a).bus = .memRead a (s.peek a) (s.platform.afterContend a 3 1 s.cycles) :: s.bus := rfl
@[simp] theorem memRead_portAnswers (s : State) (a : Word) : (s.memRead a).portAnswers = s.portAnswers := rfl
@[simp] theorem memRead_portReads (s : State) (a : Word) : (s.memRead a).portReads = s.portReads := rfl
@[simp] theorem memRead_platform (s : State) (a : Word) : (s.memRead a).platform = s.platform := rfl
@[simp] theorem memRead_peek (s : State) (a : Word) (b : Word) : (s.memRead a).peek b = s.peek b := rfl
@[simp] theorem memRead_reg8 (s : State) (a : Word) (y : Reg8) : (s.memRead a).reg8 y = s.reg8 y := rfl
@[simp] theorem memRead_reg16 (s : State) (a : Word) (q : Reg16) : (s.memRead a).reg16 q = s.reg16 q := rfl
@[simp] theorem memRead_portByte (s : State) (a : Word) (q : Word) : (s.memRead a).portByte q = s.portByte q := by simp only [portByte, memRead_portAnswers, memRead_portReads]

/-! ### `memWrite` -/

@[simp] theorem memWrite_regs (s : State) (a : Word) (v : Byte) : (s.memWrite a v).regs = s.regs := rfl
@[simp] theorem memWrite_shadow (s : State) (a : Word) (v : Byte) : (s.memWrite a v).shadow = s.shadow := rfl
@[simp] theorem memWrite_ctl (s : State) (a : Word) (v : Byte) : (s.memWrite a v).ctl = s.ctl := rfl
@[simp] theorem memWrite_cycles (s : State) (a : Word) (v : Byte) : (s.memWrite a v).cycles = s.platform.afterContend a 3 1 s.cycles := rfl
@[simp] theorem memWrite_mem (s : State) (a : Word) (v : Byte) : (s.memWrite a v).mem = (s.poke a v).mem := rfl
@[simp] theorem memWrite_bus (s : State) (a : Word) (v : Byte) : (s.memWrite a v).bus = .memWrite a v (s.platform.afterContend a 3 1 s.cycles) :: s.bus := rfl
@[simp] theorem memWrite_portAnswers (s : State) (a : Word) (v : Byte) : (s.memWrite a v).portAnswers = s.portAnswers := rfl
@[simp] theorem memWrite_portReads (s : State) (a : Word) (v : Byte) : (s.memWrite a v).portReads = s.portReads := rfl
@[simp] theorem memWrite_platform (s : State) (a : Word) (v : Byte) : (s.memWrite a v).platform = s.platform := rfl
@[simp] theorem memWrite_reg8 (s : State) (a : Word) (v : Byte) (y : Reg8) : (s.memWrite a v).reg8 y = s.reg8 y := rfl
@[simp] theorem memWrite_reg16 (s : State) (a : Word) (v : Byte) (q : Reg16) : (s.memWrite a v).reg16 q = s.reg16 q := rfl
@[simp] theorem memWrite_portByte (s : State) (a : Word) (v : Byte) (q : Word) : (s.memWrite a v).portByte q = s.portByte q := by simp only [portByte, memWrite_portAnswers, memWrite_portReads]

/-! ### `portTime` -/

@[simp] theorem portTime_regs (s : State) (port : Word) : (s.portTime port).regs = s.regs := rfl
@[simp] theorem portTime_shadow (s : State) (port : Word) : (s.portTime port).shadow = s.shadow := rfl
@[simp] theorem portTime_ctl (s : State) (port : Word) : (s.portTime port).ctl = s.ctl := rfl
@[simp] theorem portTime_cycles (s : State) (port : Word) : (s.portTime port).cycles = s.platform.afterPort port s.cycles := rfl
@[simp] theorem portTime_mem (s : State) (port : Word) : (s.portTime port).mem = s.mem := rfl
@[simp] theorem portTime_bus (s : State) (port : Word) : (s.portTime port).bus = s.bus := rfl
@[simp] theorem portTime_portAnswers (s : State) (port : Word) : (s.portTime port).portAnswers = s.portAnswers := rfl
@[simp] theorem portTime_portReads (s : State) (port : Word) : (s.portTime port).portReads = s.portReads := rfl
@[simp] theorem portTime_platform (s : State) (port : Word) : (s.portTime port).platform = s.platform := rfl
@[simp] theorem portTime_peek (s : State) (port : Word) (b : Word) : (s.portTime port).peek b = s.peek b := rfl
@[simp] theorem portTime_reg8 (s : State) (port : Word) (y : Reg8) : (s.portTime port).reg8 y = s.reg8 y := rfl
@[simp] theorem portTime_reg16 (s : State) (port : Word) (q : Reg16) : (s.portTime port).reg16 q = s.reg16 q := rfl
@[simp] theorem portTime_portByte (s : State) (port : Word) (q : Word) : (s.portTime port).portByte q = s.portByte q := by simp only [portByte, portTime_portAnswers, portTime_portReads]

/-! ### `portRead` -/

@[simp] theorem portRead_regs (s : State) (port : Word) : (s.portRead port).regs = s.regs := rfl
@[simp] theorem portRead_shadow (s : State) (port : Word) : (s.portRead port).shadow = s.shadow := rfl
@[simp] theorem portRead_ctl (s : State) (port : Word) : (s.portRead port).ctl = s.ctl := rfl
@[simp] theorem portRead_cycles (s : State) (port : Word) : (s.portRead port).cycles = s.platform.afterPort port s.cycles := rfl
@[simp] theorem portRead_mem (s : State) (port : Word) : (s.portRead port).mem = s.mem := rfl
@[simp] theorem portRead_bus (s : State) (port : Word) : (s.portRead port).bus = .portRead port (s.portByte port) (s.platform.afterPort port s.cycles) :: s.bus := rfl
@[simp] theorem portRead_portAnswers (s : State) (port : Word) : (s.portRead port).portAnswers = s.portAnswers.tail := rfl
@[simp] theorem portRead_portReads (s : State) (port : Word) : (s.portRead port).portReads = s.portReads + 1 := rfl
@[simp] theorem portRead_platform (s : State) (port : Word) : (s.portRead port).platform = s.platform := rfl
@[simp] theorem portRead_peek (s : State) (port : Word) (b : Word) : (s.portRead port).peek b = s.peek b := rfl
@[simp] theorem portRead_reg8 (s : State) (port : Word) (y : Reg8) : (s.portRead port).reg8 y = s.reg8 y := rfl
@[simp] theorem portRead_reg16 (s : State) (port : Word) (q : Reg16) : (s.portRead port).reg16 q = s.reg16 q := rfl

/-! ### `portWrite` -/

@[simp] theorem portWrite_regs (s : State) (port : Word) (v : Byte) : (s.portWrite port v).regs = s.regs := rfl
@[simp] theorem portWrite_shadow (s : State) (port : Word) (v : Byte) : (s.portWrite port v).shadow = s.shadow := rfl
@[simp] theorem portWrite_ctl (s : State) (port : Word) (v : Byte) : (s.portWrite port v).ctl = s.ctl := rfl
@[simp] theorem portWrite_cycles (s : State) (port : Word) (v : Byte) : (s.portWrite port v).cycles = s.platform.afterPort port s.cycles := rfl
@[simp] theorem portWrite_mem (s : State) (port : Word) (v : Byte) : (s.portWrite port v).mem = s.mem := rfl
@[simp] theorem portWrite_bus (s : State) (port : Word) (v : Byte) : (s.portWrite port v).bus = .portWrite port v (s.platform.afterPort port s.cycles) :: s.bus := rfl
@[simp] theorem portWrite_portAnswers (s : State) (port : Word) (v : Byte) : (s.portWrite port v).portAnswers = s.portAnswers := rfl
@[simp] theorem portWrite_portReads (s : State) (port : Word) (v : Byte) : (s.portWrite port v).portReads = s.portReads := rfl
@[simp] theorem portWrite_platform (s : State) (port : Word) (v : Byte) : (s.portWrite port v).platform = s.platform := rfl
@[simp] theorem portWrite_peek (s : State) (port : Word) (v : Byte) (b : Word) : (s.portWrite port v).peek b = s.peek b := rfl
@[simp] theorem portWrite_reg8 (s : State) (port : Word) (v : Byte) (y : Reg8) : (s.portWrite port v).reg8 y = s.reg8 y := rfl
@[simp] theorem portWrite_reg16 (s : State) (port : Word) (v : Byte) (q : Reg16) : (s.portWrite port v).reg16 q = s.reg16 q := rfl
@[simp] theorem portWrite_portByte (s : State) (port : Word) (v : Byte) (q : Word) : (s.portWrite port v).portByte q = s.portByte q := by simp only [portByte, portWrite_portAnswers, portWrite_portReads]

/-! ### `refresh` -/

@[simp] theorem refresh_regs (s : State) : s.refresh.regs = { s.regs with r := nextR s.regs.r } := rfl
@[simp] theorem refresh_shadow (s : State) : s.refresh.shadow = s.shadow := rfl
@[simp] theorem refresh_ctl (s : State) : s.refresh.ctl = s.ctl := rfl
@[simp] theorem refresh_cycles (s : State) : s.refresh.cycles = s.cycles := rfl
@[simp] theorem refresh_mem (s : State) : s.refresh.mem = s.mem := rfl
@[simp] theorem refresh_bus (s : State) : s.refresh.bus = s.bus := rfl
@[simp] theorem refresh_portAnswers (s : State) : s.refresh.portAnswers = s.portAnswers := rfl
@[simp] theorem refresh_portReads (s : State) : s.refresh.portReads = s.portReads := rfl
@[simp] theorem refresh_platform (s : State) : s.refresh.platform = s.platform := rfl
@[simp] theorem refresh_peek (s : State) (b : Word) : s.refresh.peek b = s.peek b := rfl
@[simp] theorem refresh_portByte (s : State) (q : Word) : s.refresh.portByte q = s.portByte q := by simp only [portByte, refresh_portAnswers, refresh_portReads]

/-! ### `advance` -/

@[simp] theorem advance_regs (s : State) : s.advance.regs = { s.regs with pc := s.regs.pc + 1 } := rfl
@[simp] theorem advance_shadow (s : State) : s.advance.shadow = s.shadow := rfl
@[simp] theorem advance_ctl (s : State) : s.advance.ctl = s.ctl := rfl
@[simp] theorem advance_cycles (s : State) : s.advance.cycles = s.cycles := rfl
@[simp] theorem advance_mem (s : State) : s.advance.mem = s.mem := rfl
@[simp] theorem advance_bus (s : State) : s.advance.bus = s.bus := rfl
@[simp] theorem advance_portAnswers (s : State) : s.advance.portAnswers = s.portAnswers := rfl
@[simp] theorem advance_portReads (s : State) : s.advance.portReads = s.portReads := rfl
@[simp] theorem advance_platform (s : State) : s.advance.platform = s.platform := rfl
@[simp] theorem advance_peek (s : State) (b : Word) : s.advance.peek b = s.peek b := rfl
@[simp] theorem advance_portByte (s : State) (q : Word) : s.advance.portByte q = s.portByte q := by simp only [portByte, advance_portAnswers, advance_portReads]

/-! ### `fetch` -/

@[simp] theorem fetch_regs (s : State) : s.fetch.regs = { s.regs with pc := s.regs.pc + 1, r := nextR s.regs.r } := rfl
@[simp] theorem fetch_shadow (s : State) : s.fetch.shadow = s.shadow := rfl
@[simp] theorem fetch_ctl (s : State) : s.fetch.ctl = s.ctl := rfl
@[simp] theorem fetch_cycles (s : State) : s.fetch.cycles = s.platform.afterContend s.regs.pc 4 1 s.cycles := rfl
@[simp] theorem fetch_mem (s : State) : s.fetch.mem = s.mem := rfl
@[simp] theorem fetch_bus (s : State) : s.fetch.bus = s.bus := rfl
@[simp] theorem fetch_portAnswers (s : State) : s.fetch.portAnswers = s.portAnswers := rfl
@[simp] theorem fetch_portReads (s : State) : s.fetch.portReads = s.portReads := rfl
@[simp] theorem fetch_platform (s : State) : s.fetch.platform = s.platform := rfl
@[simp] theorem fetch_peek (s : State) (b : Word) : s.fetch.peek b = s.peek b := rfl
@[simp] theorem fetch_portByte (s : State) (q : Word) : s.fetch.portByte q = s.portByte q := by simp only [portByte, fetch_portAnswers, fetch_portReads]

/-! ### `operandRead` -/

@[simp] theorem operandRead_regs (s : State) : s.operandRead.regs = s.regs := rfl
@[simp] theorem operandRead_shadow (s : State) : s.operandRead.shadow = s.shadow := rfl
@[simp] theorem operandRead_ctl (s : State) : s.operandRead.ctl = s.ctl := rfl
@[simp] theorem operandRead_cycles (s : State) : s.operandRead.cycles = s.platform.afterContend s.regs.pc 3 1 s.cycles := rfl
@[simp] theorem operandRead_mem (s : State) : s.operandRead.mem = s.mem := rfl
@[simp] theorem operandRead_bus (s : State) : s.operandRead.bus = .memRead s.regs.pc s.operand (s.platform.afterContend s.regs.pc 3 1 s.cycles) :: s.bus := rfl
@[simp] theorem operandRead_portAnswers (s : State) : s.operandRead.portAnswers = s.portAnswers := rfl
@[simp] theorem operandRead_portReads (s : State) : s.operandRead.portReads = s.portReads := rfl
@[simp] theorem operandRead_platform (s : State) : s.operandRead.platform = s.platform := rfl
@[simp] theorem operandRead_peek (s : State) (b : Word) : s.operandRead.peek b = s.peek b := rfl
@[simp] theorem operandRead_reg8 (s : State) (y : Reg8) : s.operandRead.reg8 y = s.reg8 y := rfl
@[simp] theorem operandRead_reg16 (s : State) (q : Reg16) : s.operandRead.reg16 q = s.reg16 q := rfl
@[simp] theorem operandRead_portByte (s : State) (q : Word) : s.operandRead.portByte q = s.portByte q := by simp only [portByte, operandRead_portAnswers, operandRead_portReads]

/-! ### `imm8` -/

@[simp] theorem imm8_regs (s : State) : s.imm8.regs = { s.regs with pc := s.regs.pc + 1 } := rfl
@[simp] theorem imm8_shadow (s : State) : s.imm8.shadow = s.shadow := rfl
@[simp] theorem imm8_ctl (s : State) : s.imm8.ctl = s.ctl := rfl
@[simp] theorem imm8_cycles (s : State) : s.imm8.cycles = s.platform.afterContend s.regs.pc 3 1 s.cycles := rfl
@[simp] theorem imm8_mem (s : State) : s.imm8.mem = s.mem := rfl
@[simp] theorem imm8_bus (s : State) : s.imm8.bus = .memRead s.regs.pc s.operand (s.platform.afterContend s.regs.pc 3 1 s.cycles) :: s.bus := rfl
@[simp] theorem imm8_portAnswers (s : State) : s.imm8.portAnswers = s.portAnswers := rfl
@[simp] theorem imm8_portReads (s : State) : s.imm8.portReads = s.portReads := rfl
@[simp] theorem imm8_platform (s : State) : s.imm8.platform = s.platform := rfl
@[simp] theorem imm8_peek (s : State) (b : Word) : s.imm8.peek b = s.peek b := rfl
@[simp] theorem imm8_portByte (s : State) (q : Word) : s.imm8.portByte q = s.portByte q := by simp only [portByte, imm8_portAnswers, imm8_portReads]

/-! ### `fetch2` -/

@[simp] theorem fetch2_regs (s : State) : s.fetch2.regs = { s.regs with pc := s.regs.pc + 1 + 1, r := nextR (nextR s.regs.r) } := by
  simp only [fetch2, fetch_regs]
@[simp] theorem fetch2_shadow (s : State) : s.fetch2.shadow = s.shadow := by
  simp only [fetch2, fetch_shadow]
@[simp] theorem fetch2_ctl (s : State) : s.fetch2.ctl = s.ctl := by
  simp only [fetch2, fetch_ctl]
@[simp] theorem fetch2_mem (s : State) : s.fetch2.mem = s.mem := by
  simp only [fetch2, fetch_mem]
@[simp] theorem fetch2_bus (s : State) : s.fetch2.bus = s.bus := by
  simp only [fetch2, fetch_bus]
@[simp] theorem fetch2_portAnswers (s : State) : s.fetch2.portAnswers = s.portAnswers := by
  simp only [fetch2, fetch_portAnswers]
@[simp] theorem fetch2_portReads (s : State) : s.fetch2.portReads = s.portReads := by
  simp only [fetch2, fetch_portReads]
@[simp] theorem fetch2_platform (s : State) : s.fetch2.platform = s.platform := by
  simp only [fetch2, fetch_platform]
@[simp] theorem fetch2_peek (s : State) (b : Word) : s.fetch2.peek b = s.peek b := by
  simp only [fetch2, fetch_peek]
@[simp] theorem fetch2_portByte (s : State) (q : Word) : s.fetch2.portByte q = s.portByte q := by simp only [portByte, fetch2_portAnswers, fetch2_portReads]

/-! ### `imm16` -/

@[simp] theorem imm16_regs (s : State) : s.imm16.regs = { s.regs with pc := s.regs.pc + 1 + 1 } := by
  simp only [imm16, imm8_regs]
@[simp] theorem imm16_shadow (s : State) : s.imm16.shadow = s.shadow := by
  simp only [imm16, imm8_shadow]
@[simp] theorem imm16_ctl (s : State) : s.imm16.ctl = s.ctl := by
  simp only [imm16, imm8_ctl]
@[simp] theorem imm16_mem (s : State) : s.imm16.mem = s.mem := by
  simp only [imm16, imm8_mem]
@[simp] theorem imm16_portAnswers (s : State) : s.imm16.portAnswers = s.portAnswers := by
  simp only [imm16, imm8_portAnswers]
@[simp] theorem imm16_portReads (s : State) : s.imm16.portReads = s.portReads := by
  simp only [imm16, imm8_portReads]
@[simp] theorem imm16_platform (s : State) : s.imm16.platform = s.platform := by
  simp only [imm16, imm8_platform]
@[simp] theorem imm16_peek (s : State) (b : Word) : s.imm16.peek b = s.peek b := by
  simp only [imm16, imm8_peek]
@[simp] theorem imm16_portByte (s : State) (q : Word) : s.imm16.portByte q = s.portByte q := by simp only [portByte, imm16_portAnswers, imm16_portReads]

/-! ### `memRead16` -/

@[simp] theorem memRead16_regs (s : State) (a : Word) : (s.memRead16 a).regs = s.regs := by
  simp only [memRead16, memRead_regs]
@[simp] theorem memRead16_shadow (s : State) (a : Word) : (s.memRead16 a).shadow = s.shadow := by
  simp only [memRead16, memRead_shadow]
@[simp] theorem memRead16_ctl (s : State) (a : Word) : (s.memRead16 a).ctl = s.ctl := by
  simp only [memRead16, memRead_ctl]
@[simp] theorem memRead16_mem (s : State) (a : Word) : (s.memRead16 a).mem = s.mem := by
  simp only [memRead16, memRead_mem]
@[simp] theorem memRead16_portAnswers (s : State) (a : Word) : (s.memRead16 a).portAnswers = s.portAnswers := by
  simp only [memRead16, memRead_portAnswers]
@[simp] theorem memRead16_portReads (s : State) (a : Word) : (s.memRead16 a).portReads = s.portReads := by
  simp only [memRead16, memRead_portReads]
@[simp] theorem memRead16_platform (s : State) (a : Word) : (s.memRead16 a).platform = s.platform := by
  simp only [memRead16, memRead_platform]
@[simp] theorem memRead16_peek (s : State) (a : Word) (b : Word) : (s.memRead16 a).peek b = s.peek b := by
  simp only [memRead16, memRead_peek]
@[simp] theorem memRead16_reg8 (s : State) (a : Word) (y : Reg8) : (s.memRead16 a).reg8 y = s.reg8 y := by
  simp only [memRead16, memRead_reg8]
@[simp] theorem memRead16_reg16 (s : State) (a : Word) (q : Reg16) : (s.memRead16 a).reg16 q = s.reg16 q := by
  simp only [memRead16, memRead_reg16]
@[simp] theorem memRead16_portByte (s : State) (a : Word) (q : Word) : (s.memRead16 a).portByte q = s.portByte q := by simp only [portByte, memRead16_portAnswers, memRead16_portReads]

/-! ### `memWrite16` -/

@[simp] theorem memWrite16_regs (s : State) (a : Word) (w : Word) : (s.memWrite16 a w).regs = s.regs := by
  simp only [memWrite16, memWrite_regs]
@[simp] theorem memWrite16_shadow (s : State) (a : Word) (w : Word) : (s.memWrite16 a w).shadow = s.shadow := by
  simp only [memWrite16, memWrite_shadow]
@[simp] theorem memWrite16_ctl (s : State) (a : Word) (w : Word) : (s.memWrite16 a w).ctl = s.ctl := by
  simp only [memWrite16, memWrite_ctl]
@[simp] theorem memWrite16_portAnswers (s : State) (a : Word) (w : Word) : (s.memWrite16 a w).portAnswers = s.portAnswers := by
  simp only [memWrite16, memWrite_portAnswers]
@[simp] theorem memWrite16_portReads (s : State) (a : Word) (w : Word) : (s.memWrite16 a w).portReads = s.portReads := by
  simp only [memWrite16, memWrite_portReads]
@[simp] theorem memWrite16_platform (s : State) (a : Word) (w : Word) : (s.memWrite16 a w).platform = s.platform := by
  simp only [memWrite16, memWrite_platform]
@[simp] theorem memWrite16_reg8 (s : State) (a : Word) (w : Word) (y : Reg8) : (s.memWrite16 a w).reg8 y = s.reg8 y := by
  simp only [memWrite16, memWrite_reg8]
@[simp] theorem memWrite16_reg16 (s : State) (a : Word) (w : Word) (q : Reg16) : (s.memWrite16 a w).reg16 q = s.reg16 q := by
  simp only [memWrite16, memWrite_reg16]
@[simp] theorem memWrite16_portByte (s : State) (a : Word) (w : Word) (q : Word) : (s.memWrite16 a w).portByte q = s.portByte q := by simp only [portByte, memWrite16_portAnswers, memWrite16_portReads]

/-! ### `push16` -/

@[simp] theorem push16_regs (s : State) (w : Word) : (s.push16 w).regs = { s.regs with sp := s.regs.sp - 2 } := by
  simp only [push16, setSp_regs, memWrite_regs]
@[simp] theorem push16_shadow (s : State) (w : Word) : (s.push16 w).shadow = s.shadow := by
  simp only [push16, setSp_shadow, memWrite_shadow]
@[simp] theorem push16_ctl (s : State) (w : Word) : (s.push16 w).ctl = s.ctl := by
  simp only [push16, setSp_ctl, memWrite_ctl]
@[simp] theorem push16_portAnswers (s : State) (w : Word) : (s.push16 w).portAnswers = s.portAnswers := by
  simp only [push16, setSp_portAnswers, memWrite_portAnswers]
@[simp] theorem push16_portReads (s : State) (w : Word) : (s.push16 w).portReads = s.portReads := by
  simp only [push16, setSp_portReads, memWrite_portReads]
@[simp] theorem push16_platform (s : State) (w : Word) : (s.push16 w).platform = s.platform := by
  simp only [push16, setSp_platform, memWrite_platform]
@[simp] theorem push16_portByte (s : State) (w : Word) (q : Word) : (s.push16 w).portByte q = s.portByte q := by simp only [portByte, push16_portAnswers, push16_portReads]

/-! ### `pop16` -/

@[simp] theorem pop16_regs (s : State) : s.pop16.regs = { s.regs with sp := s.regs.sp + 2 } := by
  simp only [pop16, setSp_regs, memRead_regs]
@[simp] theorem pop16_shadow (s : State) : s.pop16.shadow = s.shadow := by
  simp only [pop16, setSp_shadow, memRead_shadow]
@[simp] theorem pop16_ctl (s : State) : s.pop16.ctl = s.ctl := by
  simp only [pop16, setSp_ctl, memRead_ctl]
@[simp] theorem pop16_mem (s : State) : s.pop16.mem = s.mem := by
  simp only [pop16, setSp_mem, memRead_mem]
@[simp] theorem pop16_portAnswers (s : State) : s.pop16.portAnswers = s.portAnswers := by
  simp only [pop16, setSp_portAnswers, memRead_portAnswers]
@[simp] theorem pop16_portReads (s : State) : s.pop16.portReads = s.portReads := by
  simp only [pop16, setSp_portReads, memRead_portReads]
@[simp] theorem pop16_platform (s : State) : s.pop16.platform = s.platform := by
  simp only [pop16, setSp_platform, memRead_platform]
@[simp] theorem pop16_peek (s : State) (b : Word) : s.pop16.peek b = s.peek b := by
  simp only [pop16, setSp_peek, memRead_peek]
@[simp] theorem pop16_portByte (s : State) (q : Word) : s.pop16.portByte q = s.portByte q := by simp only [portByte, pop16_portAnswers, pop16_portReads]

/-! ### Steps between instructions -/

@[simp] theorem clearShadow_regs (s : State) : s.clearShadow.regs = s.regs := rfl
@[simp] theorem clearShadow_shadow (s : State) : s.clearShadow.shadow = s.shadow := rfl
@[simp] theorem clearShadow_ctl (s : State) : s.clearShadow.ctl = { s.ctl with eiJustExecuted := false } := rfl
@[simp] theorem clearShadow_cycles (s : State) : s.clearShadow.cycles = s.cycles := rfl
@[simp] theorem clearShadow_mem (s : State) : s.clearShadow.mem = s.mem := rfl
@[simp] theorem clearShadow_bus (s : State) : s.clearShadow.bus = s.bus := rfl
@[simp] theorem clearShadow_platform (s : State) : s.clearShadow.platform = s.platform := rfl
@[simp] theorem clearShadow_peek (s : State) (b : Word) : s.clearShadow.peek b = s.peek b := rfl
@[simp] theorem clearShadow_nextInstr (s : State) : s.clearShadow.nextInstr = s.nextInstr := rfl

end Sys2Proof.Machine.State
end

