-- ==== Sys2Proof/Laws/Memory.lean ====
section
/-! SUPPORT. Laws of memory: the canonical form, read after write, and what each store leaves alone (20_memory.md
R60, R63, R64). -/

namespace Sys2Proof.Machine

namespace Memory

/-- A lower bound on the listed addresses may be lowered. -/
theorem wfFrom_mono {lo hi : Nat} (h : lo ≤ hi) {m : Memory} (w : wfFrom hi m = true) : wfFrom lo m = true := by
  cases m with
  | nil => rfl
  | cons c m =>
    simp only [wfFrom, Bool.and_eq_true, decide_eq_true_eq] at w ⊢
    exact ⟨⟨⟨by omega, w.1.1.2⟩, w.1.2⟩, w.2⟩

/-- An address below every listed one is unlisted. -/
theorem read_below {lo a : Nat} {m : Memory} (w : wfFrom lo m = true) (h : a < lo) : m.read a = unlistedByte := by
  induction m generalizing lo with
  | nil => rfl
  | cons c m ih =>
    simp only [wfFrom, Bool.and_eq_true, decide_eq_true_eq] at w
    rw [read, if_neg (by omega), ih w.2 (by omega)]

/-- Prepending the cell of one byte keeps the form. -/
theorem wfFrom_cell_append {lo a : Nat} {v : Byte} {m : Memory} (hlo : lo ≤ a) (ha : a < 65536)
    (w : wfFrom (a + 1) m = true) : wfFrom lo (cell a v ++ m) = true := by
  unfold cell
  split
  · exact wfFrom_mono (by omega) w
  · simp_all [wfFrom]

/-- A write keeps the canonical form. -/
theorem wfFrom_write {lo a : Nat} {v : Byte} {m : Memory} (hlo : lo ≤ a) (ha : a < 65536)
    (w : wfFrom lo m = true) : wfFrom lo (m.write a v) = true := by
  induction m generalizing lo with
  | nil => simpa [write] using wfFrom_cell_append (v := v) hlo ha (m := []) rfl
  | cons c m ih =>
    have w' := w
    simp only [wfFrom, Bool.and_eq_true, decide_eq_true_eq] at w
    obtain ⟨⟨⟨h1, h2⟩, h3⟩, h4⟩ := w
    rw [write]
    split
    · rename_i hlt
      exact wfFrom_cell_append hlo ha (by simp [wfFrom, h2, h4, h3]; omega)
    · split
      · rename_i heq
        subst heq
        exact wfFrom_cell_append hlo ha h4
      · simp [wfFrom, h1, h2, h3, ih (lo := c.1 + 1) (by omega) h4]

/-- A write to a 16-bit address keeps the canonical form. -/
theorem wf_write {m : Memory} (a : Word) (v : Byte) (w : m.wf = true) : (m.write a.toNat v).wf = true :=
  wfFrom_write (Nat.zero_le _) a.isLt w

/-- What the cell of one byte reads as. -/
theorem read_cell_append {lo a b : Nat} {v : Byte} {m : Memory} (w : wfFrom lo m = true) (h : a < lo) :
    read (cell a v ++ m) b = if b = a then v else read m b := by
  unfold cell
  split
  · rename_i hv
    split
    · rename_i hb
      subst hb
      simp [read_below w h, hv]
    · rfl
  · simp [read]

/-- A byte reads back as written, and a write changes no other byte. -/
theorem read_write {lo a b : Nat} {v : Byte} {m : Memory} (w : wfFrom lo m = true) :
    (m.write a v).read b = if b = a then v else m.read b := by
  induction m generalizing lo with
  | nil => simpa [write] using read_cell_append (m := []) (lo := a + 1) (b := b) (v := v) rfl (by omega)
  | cons c m ih =>
    have w' := w
    simp only [wfFrom, Bool.and_eq_true, decide_eq_true_eq] at w
    obtain ⟨⟨⟨h1, h2⟩, h3⟩, h4⟩ := w
    rw [write]
    split
    · rename_i hlt
      exact read_cell_append (lo := c.1) (by simp [wfFrom, h2, h3, h4]) hlt
    · split
      · rename_i heq
        subst heq
        rw [read_cell_append h4 (by omega), read]
        split <;> simp_all
      · rename_i hne
        rw [read, ih h4, read]
        split <;> split <;> simp_all

/-- The canonical form is canonical: two memories that read alike are equal data. -/
theorem ext_of_read {lo : Nat} {m n : Memory} (hm : wfFrom lo m = true) (hn : wfFrom lo n = true)
    (h : ∀ a, m.read a = n.read a) : m = n := by
  induction m generalizing lo n with
  | nil =>
    cases n with
    | nil => rfl
    | cons c n =>
      simp only [wfFrom, Bool.and_eq_true, decide_eq_true_eq] at hn
      have := h c.1
      simp [read] at this
      exact absurd this.symm hn.1.2
  | cons c m ih =>
    cases n with
    | nil =>
      simp only [wfFrom, Bool.and_eq_true, decide_eq_true_eq] at hm
      have := h c.1
      simp [read] at this
      exact absurd this hm.1.2
    | cons d n =>
      simp only [wfFrom, Bool.and_eq_true, decide_eq_true_eq] at hm hn
      obtain ⟨⟨⟨_, _⟩, cv⟩, cm⟩ := hm
      obtain ⟨⟨⟨_, _⟩, dv⟩, dn⟩ := hn
      have key : c.1 = d.1 := by
        rcases Nat.lt_trichotomy c.1 d.1 with hlt | heq | hgt
        · have := h c.1
          rw [read, if_pos rfl, read, if_neg (by omega), read_below dn (by omega)] at this
          exact absurd this cv
        · exact heq
        · have := h d.1
          rw [read, if_neg (by omega), read_below cm (by omega), read, if_pos rfl] at this
          exact absurd this.symm dv
      have val : c.2 = d.2 := by
        have := h c.1
        rwa [read, if_pos rfl, read, if_pos key] at this
      have tail : m = n := by
        refine ih cm (key ▸ dn) fun a => ?_
        have := h a
        rw [read, read, key] at this
        by_cases ha : a = d.1
        · subst ha
          rw [read_below cm (by omega), read_below dn (by omega)]
        · rwa [if_neg ha, if_neg ha] at this
      rw [tail]
      congr 1
      exact Prod.ext key val

end Memory

namespace State

/-- A store that lands reads back, and no other byte changes; at a read-only address nothing changes (R64). -/
theorem poke_peek {s : State} (w : s.mem.wf = true) (a b : Word) (v : Byte) :
    (s.poke a v).peek b = if b = a ∧ s.platform.isReadOnly a = false then v else s.peek b := by
  unfold State.peek
  rw [poke_mem]
  cases h : s.platform.isReadOnly a
  · simp only [Bool.false_eq_true, if_false, and_true]
    rw [Memory.read_write (lo := 0) w]
    simp [BitVec.toNat_inj]
  · simp

/-- A timed store does to memory what an untimed one does. -/
@[simp] theorem memWrite_peek (s : State) (a b : Word) (v : Byte) : (s.memWrite a v).peek b = (s.poke a v).peek b := rfl

/-- A store keeps the canonical form. -/
theorem poke_wf {s : State} (w : s.mem.wf = true) (a : Word) (v : Byte) : (s.poke a v).mem.wf = true := by
  rw [poke_mem]
  split
  · exact w
  · exact Memory.wf_write a v w

/-- A timed store keeps the canonical form. -/
theorem memWrite_wf {s : State} (w : s.mem.wf = true) (a : Word) (v : Byte) : (s.memWrite a v).mem.wf = true := by
  rw [memWrite_mem]
  exact poke_wf w a v

/-- A store away from an address leaves its byte alone. -/
theorem memWrite_peek_of_ne {s : State} (w : s.mem.wf = true) {a b : Word} (v : Byte) (h : b ≠ a) :
    (s.memWrite a v).peek b = s.peek b := by
  rw [memWrite_peek, poke_peek w, if_neg (fun e => h e.1)]

/-- A store to a writable address reads back. -/
theorem memWrite_peek_self {s : State} (w : s.mem.wf = true) (a : Word) (v : Byte)
    (h : s.platform.isReadOnly a = false) : (s.memWrite a v).peek a = v := by
  rw [memWrite_peek, poke_peek w, if_pos ⟨rfl, h⟩]

/-- A store changes nothing where the platform ignores stores. -/
theorem memWrite_peek_readOnly {s : State} (w : s.mem.wf = true) (a b : Word) (v : Byte)
    (h : s.platform.isReadOnly b = true) : (s.memWrite a v).peek b = s.peek b := by
  rw [memWrite_peek, poke_peek w, if_neg]
  rintro ⟨rfl, h'⟩
  simp_all

end State

end Sys2Proof.Machine
end

