-- ==== Sys2Proof/Laws/Effects.lean ====
section
/-! SUPPORT. How the effect of an instruction is put together: `Made s t bus` says that the way from `s` to `t` made
the bus cycles `bus` and changed memory, time, trace and ports by them alone. One lemma for each operation
extends the list by the operation's cycles, so the lemmas compose as the operations do; `Effect.Of.ofMade`
then gives the whole effect. -/

namespace Sys2Proof.Machine

/-! ## Time and trace of a sequence of cycles -/

theorem busTime_append (p : Platform) (xs ys : List BusCycle) (c : Int) :
    busTime p (xs ++ ys) c = busTime p ys (busTime p xs c) := by
  induction xs generalizing c with
  | nil => rfl
  | cons x xs ih => exact ih _

theorem busTrace_append (p : Platform) (xs ys : List BusCycle) (c : Int) (l : List BusEvent) :
    busTrace p (xs ++ ys) c l = busTrace p ys (busTime p xs c) (busTrace p xs c l) := by
  induction xs generalizing c l with
  | nil => rfl
  | cons x xs ih => exact ih _ _

theorem storedBytes_append (xs ys : List BusCycle) : storedBytes (xs ++ ys) = storedBytes xs ++ storedBytes ys := by
  induction xs with
  | nil => rfl
  | cons x xs ih => cases x <;> simp [storedBytes, ih]

theorem portsRead_append (xs ys : List BusCycle) : portsRead (xs ++ ys) = portsRead ys + portsRead xs := by
  induction xs with
  | nil => rfl
  | cons x xs ih => cases x <;> simp [portsRead, ih, Nat.add_assoc]

/-- Nothing is contended: an access takes its own T-states (R66). -/
@[simp] theorem State.Uncontended.afterContend {s : State} (h : s.Uncontended) (a : Word) (d n : Nat) (c : Int) :
    s.platform.afterContend a d n c = c + d * n := by
  simp [Platform.afterContend, Platform.isContended, inRanges, h.1]

/-- Nothing is contended: a port access takes 4 T-states (R70). -/
@[simp] theorem State.Uncontended.afterPort {s : State} (h : s.Uncontended) (q : Word) (c : Int) :
    s.platform.afterPort q c = c + 4 := by
  simp only [Platform.afterPort, Platform.afterPortLate, Platform.afterPortEarly, h.afterContend, h.2,
    Platform.isContended, inRanges, h.1, List.any_nil, Bool.or_self, Bool.false_eq_true, if_false]
  split <;> omega

/-- The T-states of a cycle when nothing is contended. -/
def BusCycle.cost : BusCycle → Int
  | .fetch _ => 4
  | .wait _ n => n
  | .read _ _ => 3
  | .write _ _ => 3
  | .portIn _ _ => 4
  | .portOut _ _ => 4
  | .ack n => n

/-- The T-states of a sequence of cycles when nothing is contended. -/
def busCost : List BusCycle → Int
  | [] => 0
  | b :: bs => b.cost + busCost bs

theorem busCost_append (xs ys : List BusCycle) : busCost (xs ++ ys) = busCost xs + busCost ys := by
  induction xs with
  | nil => simp [busCost]
  | cons x xs ih => simp [busCost, ih, Int.add_assoc]

theorem State.Uncontended.after {s : State} (h : s.Uncontended) (b : BusCycle) (c : Int) :
    b.after s.platform c = c + b.cost := by
  cases b <;> simp [BusCycle.after, BusCycle.cost, h]

/-- When nothing is contended, a sequence of cycles takes the sum of its T-states. -/
theorem State.Uncontended.busTime {s : State} (h : s.Uncontended) (bs : List BusCycle) (c : Int) :
    busTime s.platform bs c = c + busCost bs := by
  induction bs generalizing c with
  | nil => simp [Machine.busTime, busCost]
  | cons b bs ih => rw [Machine.busTime, ih, h.after, busCost]; omega

/-! ## Cycles made on the way -/

/-- The way from `s` to `t` made these cycles, and they are all that happened to memory, time and ports. -/
structure State.Made (s t : State) (bus : List BusCycle) : Prop where
  mem : s.mem.wf = true → t.mem.wf = true ∧ s.Stores t (storedBytes bus)
  cycles : t.cycles = busTime s.platform bus s.cycles
  trace : t.bus = busTrace s.platform bus s.cycles s.bus
  answers : t.portAnswers = s.portAnswers.drop (portsRead bus)
  reads : t.portReads = s.portReads + portsRead bus
  platform : t.platform = s.platform

/-- The whole effect, from the cycles made and the registers left. -/
theorem Effect.Of.ofMade {s t : State} {e : Effect} {bus : List BusCycle} (h : s.Made t bus) (regs : t.regs = e.regs)
    (shadow : t.shadow = e.shadow) (ctl : t.ctl = e.ctl) (same : bus = e.bus) (cost : busCost bus = e.tstates) :
    e.Of s t where
  regs := regs
  shadow := shadow
  ctl := ctl
  mem w := same ▸ (h.mem w).2
  cycles := same ▸ h.cycles
  tstates u := by rw [h.cycles, u.busTime, cost]
  trace := same ▸ h.trace
  answers := same ▸ h.answers
  reads := same ▸ h.reads
  platform := h.platform

/-- The same effect, written differently. -/
theorem Effect.Of.cast {s t : State} {e f : Effect} (h : e.Of s t) (same : e = f) : f.Of s t := same ▸ h

namespace State.Made

theorem refl (s : State) : s.Made s [] where
  mem w := ⟨w, fun _ _ => rfl, by simp [storedBytes], fun _ _ => rfl⟩
  cycles := rfl
  trace := rfl
  answers := rfl
  reads := rfl
  platform := rfl

variable {s u : State} {bus : List BusCycle}

/-- An update of registers, shadow bank and control cells makes no cycle. -/
theorem regsOnly {t : State} (h : s.Made u bus) (m : t.mem = u.mem) (c : t.cycles = u.cycles) (b : t.bus = u.bus)
    (a : t.portAnswers = u.portAnswers) (r : t.portReads = u.portReads) (p : t.platform = u.platform) :
    s.Made t bus where
  mem w := by
    have k := h.mem w
    unfold State.Stores State.peek at k ⊢
    rw [m]
    exact k
  cycles := c.trans h.cycles
  trace := b.trans h.trace
  answers := a.trans h.answers
  reads := r.trans h.reads
  platform := p.trans h.platform

theorem setReg8 (h : s.Made u bus) (x : Reg8) (v : Byte) : s.Made (u.setReg8 x v) bus := h.regsOnly rfl rfl rfl rfl rfl rfl
theorem setReg16 (h : s.Made u bus) (p : Reg16) (w : Word) : s.Made (u.setReg16 p w) bus := h.regsOnly rfl rfl rfl rfl rfl rfl
theorem setA (h : s.Made u bus) (v : Byte) : s.Made (u.setA v) bus := h.regsOnly rfl rfl rfl rfl rfl rfl
theorem setF (h : s.Made u bus) (v : Byte) : s.Made (u.setF v) bus := h.regsOnly rfl rfl rfl rfl rfl rfl
theorem setPc (h : s.Made u bus) (w : Word) : s.Made (u.setPc w) bus := h.regsOnly rfl rfl rfl rfl rfl rfl
theorem setSp (h : s.Made u bus) (w : Word) : s.Made (u.setSp w) bus := h.regsOnly rfl rfl rfl rfl rfl rfl
theorem setMemptr (h : s.Made u bus) (w : Word) : s.Made (u.setMemptr w) bus := h.regsOnly rfl rfl rfl rfl rfl rfl
theorem advance (h : s.Made u bus) : s.Made u.advance bus := h.regsOnly rfl rfl rfl rfl rfl rfl
theorem refresh (h : s.Made u bus) : s.Made u.refresh bus := h.regsOnly rfl rfl rfl rfl rfl rfl
theorem setCtl (h : s.Made u bus) (c : Control) : s.Made (u.setCtl c) bus := h.regsOnly rfl rfl rfl rfl rfl rfl
theorem setShadow (h : s.Made u bus) (x : Shadow) : s.Made (u.setShadow x) bus := h.regsOnly rfl rfl rfl rfl rfl rfl
theorem exx (h : s.Made u bus) : s.Made (Machine.exx u) bus := h.regsOnly rfl rfl rfl rfl rfl rfl

/-- A cycle that stores nothing and takes no port byte. -/
theorem plainCycle {t : State} (h : s.Made u bus) (b : BusCycle) (st : storedBytes [b] = []) (pr : portsRead [b] = 0)
    (m : t.mem = u.mem) (c : t.cycles = b.after u.platform u.cycles) (tr : t.bus = b.noted t.cycles u.bus)
    (a : t.portAnswers = u.portAnswers) (r : t.portReads = u.portReads) (p : t.platform = u.platform) :
    s.Made t (bus ++ [b]) where
  mem w := by
    have k := h.mem w
    rw [storedBytes_append, st, List.append_nil]
    unfold State.Stores State.peek at k ⊢
    rw [m]
    exact k
  cycles := by rw [c, busTime_append, ← h.cycles, h.platform]; rfl
  trace := by rw [tr, busTrace_append, ← h.cycles, ← h.trace, c, h.platform]; rfl
  answers := by rw [a, h.answers, portsRead_append, pr, Nat.zero_add]
  reads := by rw [r, h.reads, portsRead_append, pr, Nat.zero_add]
  platform := p.trans h.platform

/-- `Contend(a, 1, n)`. -/
theorem contend (h : s.Made u bus) (a : Word) (n : Nat) : s.Made (u.contend a 1 n) (bus ++ [.wait a n]) :=
  h.plainCycle (.wait a n) rfl rfl rfl rfl rfl rfl rfl rfl

theorem spend (h : s.Made u bus) (n : Nat) : s.Made (u.spend n) (bus ++ [.ack n]) :=
  h.plainCycle (.ack n) rfl rfl rfl rfl rfl rfl rfl rfl

theorem memRead (h : s.Made u bus) (a : Word) : s.Made (u.memRead a) (bus ++ [.read a (u.peek a)]) :=
  h.plainCycle (.read a (u.peek a)) rfl rfl rfl rfl rfl rfl rfl rfl

theorem portWrite (h : s.Made u bus) (q : Word) (v : Byte) : s.Made (u.portWrite q v) (bus ++ [.portOut q v]) :=
  h.plainCycle (.portOut q v) rfl rfl rfl rfl rfl rfl rfl rfl

theorem fetch (h : s.Made u bus) : s.Made u.fetch (bus ++ [.fetch u.regs.pc]) :=
  h.plainCycle (.fetch u.regs.pc) rfl rfl rfl rfl rfl rfl rfl rfl

theorem portRead (h : s.Made u bus) (q : Word) : s.Made (u.portRead q) (bus ++ [.portIn q (u.portByte q)]) where
  mem w := by
    have k := h.mem w
    rw [storedBytes_append, show storedBytes [BusCycle.portIn q (u.portByte q)] = [] from rfl, List.append_nil]
    exact k
  cycles := by rw [busTime_append, ← h.cycles, ← h.platform]; rfl
  trace := by rw [busTrace_append, ← h.cycles, ← h.trace, ← h.platform]; rfl
  answers := by
    rw [portsRead_append]
    show u.portAnswers.tail = _
    rw [h.answers, List.tail_drop, Nat.add_comm]
    rfl
  reads := by
    rw [portsRead_append]
    show u.portReads + 1 = _
    rw [h.reads]
    simp only [portsRead]
    omega
  platform := h.platform

theorem operandRead (h : s.Made u bus) : s.Made u.operandRead (bus ++ [u.rd u.regs.pc]) := h.memRead _

theorem imm8 (h : s.Made u bus) : s.Made u.imm8 (bus ++ [u.rd u.regs.pc]) := h.operandRead.advance

theorem imm16 (h : s.Made u bus) : s.Made u.imm16 (bus ++ [u.rd u.regs.pc] ++ [u.rd (u.regs.pc + 1)]) := h.imm8.imm8

theorem memRead16 (h : s.Made u bus) (a : Word) : s.Made (u.memRead16 a) (bus ++ [u.rd a] ++ [u.rd (a + 1)]) :=
  (h.memRead a).memRead (a + 1)

theorem pop16 (h : s.Made u bus) :
    s.Made u.pop16 (bus ++ [u.rd u.regs.sp] ++ [u.rd (u.regs.sp + 1)]) :=
  (((h.memRead _).setSp _).memRead _).setSp _

theorem fetch2 (h : s.Made u bus) : s.Made u.fetch2 (bus ++ [.fetch u.regs.pc] ++ [.fetch (u.regs.pc + 1)]) :=
  h.fetch.fetch

/-- A store at an address not stored to before on the way. -/
theorem memWrite (h : s.Made u bus) (a : Word) (v : Byte) (new : a ∉ (storedBytes bus).map Prod.fst) :
    s.Made (u.memWrite a v) (bus ++ [.write a v]) where
  mem w := by
    obtain ⟨wu, k1, k2, k3⟩ := h.mem w
    refine ⟨memWrite_wf wu a v, ?_⟩
    rw [storedBytes_append]
    refine ⟨fun b hb => ?_, fun x hx hr => ?_, fun b hb => ?_⟩
    · simp only [storedBytes, List.map_append, List.map_cons, List.map_nil, List.mem_append, List.mem_singleton,
        not_or] at hb
      rw [memWrite_peek_of_ne wu v hb.2, k1 b hb.1]
    · simp only [storedBytes, List.mem_append, List.mem_singleton] at hx
      rcases hx with hx | rfl
      · rw [memWrite_peek_of_ne wu v (fun e => new (List.mem_map.2 ⟨x, hx, e⟩)), k2 x hx hr]
      · exact memWrite_peek_self wu a v (h.platform ▸ hr)
    · rw [memWrite_peek_readOnly wu a b v (h.platform ▸ hb), k3 b hb]
  cycles := by rw [busTime_append, ← h.cycles, ← h.platform]; rfl
  trace := by rw [busTrace_append, ← h.cycles, ← h.trace, ← h.platform]; rfl
  answers := by
    rw [portsRead_append]
    show u.portAnswers = _
    rw [h.answers]
    simp [portsRead]
  reads := by
    rw [portsRead_append]
    show u.portReads = _
    rw [h.reads]
    simp [portsRead]
  platform := h.platform

/-- The first store on the way. -/
theorem memWrite1 (h : s.Made u bus) (a : Word) (v : Byte) (none : storedBytes bus = []) :
    s.Made (u.memWrite a v) (bus ++ [.write a v]) :=
  h.memWrite a v (by simp [none])

/-- Two stores at different addresses, the first on the way. -/
theorem memWrite2 (h : s.Made u bus) (a b : Word) (v w : Byte) (none : storedBytes bus = []) (ne : b ≠ a) :
    s.Made ((u.memWrite a v).memWrite b w) (bus ++ [.write a v] ++ [.write b w]) :=
  (h.memWrite1 a v none).memWrite b w (by simp [storedBytes_append, none, storedBytes, ne])

theorem memWrite16 (h : s.Made u bus) (a w : Word) (none : storedBytes bus = []) :
    s.Made (u.memWrite16 a w) (bus ++ [.write a (loByte w)] ++ [.write (a + 1) (hiByte w)]) :=
  h.memWrite2 a (a + 1) _ _ none (by simp)

theorem push16 (h : s.Made u bus) (w : Word) (none : storedBytes bus = []) :
    s.Made (u.push16 w)
      (bus ++ [.write (u.regs.sp - 1) (hiByte w)] ++ [.write (u.regs.sp - 2) (loByte w)]) :=
  ((((h.setSp _).memWrite1 _ _ none).setSp _).memWrite _ _ (by
    simp [storedBytes_append, none, storedBytes, BitVec.sub_eq_add_neg]))

end State.Made

/-! ## The fetches in front of an operation -/

/-- What an operation does after one fetch. -/
theorem Effect.Of.afterFetch {s t : State} {e : Effect} (h : e.Of s.fetch t) :
    Effect.Of { e with bus := .fetch s.regs.pc :: e.bus, tstates := 4 + e.tstates } s t where
  regs := h.regs
  shadow := h.shadow
  ctl := h.ctl
  mem := h.mem
  cycles := h.cycles
  tstates u := by
    rw [h.tstates u]
    show s.platform.afterContend s.regs.pc 4 1 s.cycles + e.tstates = s.cycles + (4 + e.tstates)
    rw [u.afterContend]
    omega
  trace := h.trace
  answers := h.answers
  reads := h.reads
  platform := h.platform

/-- What an operation does after two fetches. -/
theorem Effect.Of.afterFetch2 {s t : State} {e : Effect} (h : e.Of s.fetch2 t) :
    Effect.Of
      { e with bus := .fetch s.regs.pc :: .fetch (s.regs.pc + 1) :: e.bus, tstates := 4 + (4 + e.tstates) } s t :=
  (Effect.Of.afterFetch (s := s.fetch) h).afterFetch

end Sys2Proof.Machine
end

