-- ==== Sys2Proof/Laws/Registers.lean ====
section
/-! SUPPORT. Laws of words, pairs and their halves (10_state.md R21). -/

namespace Sys2Proof.Machine

/-- The bits of a pair. -/
theorem mkWord_getLsbD (h l : Byte) (k : Nat) :
    (mkWord h l).getLsbD k = if k < 8 then l.getLsbD k else h.getLsbD (k - 8) :=
  BitVec.getLsbD_append

@[simp] theorem hiByte_mkWord (h l : Byte) : hiByte (mkWord h l) = h := by
  apply BitVec.eq_of_getLsbD_eq
  intro k hk
  simp [hiByte, mkWord_getLsbD, hk]

@[simp] theorem loByte_mkWord (h l : Byte) : loByte (mkWord h l) = l := by
  apply BitVec.eq_of_getLsbD_eq
  intro k hk
  simp [loByte, mkWord_getLsbD, hk]

@[simp] theorem mkWord_hiByte_loByte (w : Word) : mkWord (hiByte w) (loByte w) = w := by
  apply BitVec.eq_of_getLsbD_eq
  intro k hk
  by_cases h : k < 8
  · simp [hiByte, loByte, mkWord_getLsbD, h]
  · have e : 8 + (k - 8) = k := by omega
    have e' : k - 8 < 8 := by omega
    simp [hiByte, loByte, mkWord_getLsbD, h, e, e']

/-- The low half of a sum is the sum of the low halves. -/
theorem loByte_add (v w : Word) : loByte (v + w) = loByte v + loByte w := by
  apply BitVec.eq_of_toNat_eq
  simp only [loByte, BitVec.extractLsb'_toNat, BitVec.toNat_add, Nat.shiftRight_zero]
  omega

/-- A word is its two halves. -/
theorem word_ext {v w : Word} (h : hiByte v = hiByte w) (l : loByte v = loByte w) : v = w := by
  rw [← mkWord_hiByte_loByte v, ← mkWord_hiByte_loByte w, h, l]

/-- A write of an 8-bit register is seen by a read of it and by no other. -/
theorem Regs.get8_set8 (g : Regs) (x y : Reg8) (v : Byte) :
    (g.set8 x v).get8 y = if y = x then v else g.get8 y := by
  cases x <;> cases y <;> rfl

@[simp] theorem Regs.get8_set8_self (g : Regs) (x : Reg8) (v : Byte) : (g.set8 x v).get8 x = v := by
  simp [Regs.get8_set8]

/-- A pair reads back the word written to it. -/
@[simp] theorem Regs.get16_set16_self (g : Regs) (p : Reg16) (w : Word) : (g.set16 p w).get16 p = w := by
  cases p <;> simp [Regs.get16, Regs.set16]

/-- Two different pairs share no storage. -/
theorem Regs.get16_set16_other (g : Regs) {p q : Reg16} (w : Word) (h : q ≠ p) :
    (g.set16 p w).get16 q = g.get16 q := by
  cases p <;> cases q <;> first | rfl | exact absurd rfl h

/-! No pair holds `PC`, `I`, `R` or `MEMPTR`, and no 8-bit register is a half of `PC`, `SP` or `MEMPTR`. -/

@[simp] theorem Regs.set16_pc (g : Regs) (p : Reg16) (w : Word) : (g.set16 p w).pc = g.pc := by cases p <;> rfl
@[simp] theorem Regs.set16_i (g : Regs) (p : Reg16) (w : Word) : (g.set16 p w).i = g.i := by cases p <;> rfl
@[simp] theorem Regs.set16_r (g : Regs) (p : Reg16) (w : Word) : (g.set16 p w).r = g.r := by cases p <;> rfl
@[simp] theorem Regs.set16_memptr (g : Regs) (p : Reg16) (w : Word) : (g.set16 p w).memptr = g.memptr := by
  cases p <;> rfl
@[simp] theorem Regs.set8_pc (g : Regs) (x : Reg8) (v : Byte) : (g.set8 x v).pc = g.pc := by cases x <;> rfl
@[simp] theorem Regs.set8_sp (g : Regs) (x : Reg8) (v : Byte) : (g.set8 x v).sp = g.sp := by cases x <;> rfl
@[simp] theorem Regs.set8_memptr (g : Regs) (x : Reg8) (v : Byte) : (g.set8 x v).memptr = g.memptr := by
  cases x <;> rfl

/-- `R` keeps its bit 7 when it is incremented (R29). -/
theorem nextR_bit7 (v : Byte) : (nextR v).getLsbD 7 = v.getLsbD 7 := by
  simp [nextR]

end Sys2Proof.Machine
end

