-- ==== Sys2Proof/Laws/Did.lean ====
section
/-! SUPPORT. One lemma for each shared operation that says once everything it does: the registers it leaves, the bus
cycles it makes in order, and its T-states, from the state it is applied to. `Effect.Of.afterFetch` and
`Effect.Of.afterFetch2` put the fetches of the opcode in front. -/

namespace Sys2Proof.Machine

variable (u : State)

/-! ## Loads, stack, exchanges, accumulator ports -/

theorem ldRegReg_did (x y : Reg8) : (u.does (u.regs.set8 x (u.reg8 y)) [] 0).Of u (ldRegReg x y u) :=
  .ofMade ((State.Made.refl u).setReg8 _ _) rfl rfl rfl rfl rfl

theorem ldRegImm_did (x : Reg8) :
    (u.does (Regs.set8 { u.regs with pc := u.regs.pc + 1 } x u.operand) [u.rd u.regs.pc] 3).Of u (ldRegImm x u) :=
  .ofMade ((State.Made.refl u).imm8.setReg8 _ _) rfl rfl rfl rfl rfl

theorem ldRegMem_did (x : Reg8) :
    (u.does (u.regs.set8 x (u.peek (u.reg16 .hl))) [u.rd (u.reg16 .hl)] 3).Of u (ldRegMem x u) :=
  .ofMade (((State.Made.refl u).memRead _).setReg8 _ _) rfl rfl rfl rfl rfl

theorem stMemReg_did (x : Reg8) : (u.does u.regs [.write (u.reg16 .hl) (u.reg8 x)] 3).Of u (stMemReg x u) :=
  .ofMade ((State.Made.refl u).memWrite1 _ _ rfl) rfl rfl rfl rfl rfl

theorem stMemImm_did :
    (u.does { u.regs with pc := u.regs.pc + 1 } [u.rd u.regs.pc, .write (u.reg16 .hl) u.operand] 6).Of u (stMemImm u) :=
  .ofMade ((State.Made.refl u).imm8.memWrite1 _ _ rfl) rfl rfl rfl rfl rfl

theorem ldAPtr_did (p : Reg16) :
    (u.does { u.regs with a := u.peek (u.reg16 p), memptr := u.reg16 p + 1 } [u.rd (u.reg16 p)] 3).Of u (ldAPtr p u) :=
  .ofMade ((((State.Made.refl u).memRead _).setA _).setMemptr _) rfl rfl rfl rfl rfl

theorem ldAAbs_did :
    (u.does { u.regs with pc := u.regs.pc + 1 + 1, a := u.peek u.operand16, memptr := u.operand16 + 1 }
      [u.rd u.regs.pc, u.rd (u.regs.pc + 1), u.rd u.operand16] 9).Of u (ldAAbs u) := by
  unfold ldAAbs
  refine .ofMade ((((State.Made.refl u).imm16.memRead _).setA _).setMemptr _) ?_ ?_ ?_ ?_ ?_ <;>
    simp [State.does, State.rd, busCost, BusCycle.cost]

theorem stAPtr_did (p : Reg16) :
    (u.does { u.regs with memptr := mkWord u.regs.a (loByte (u.reg16 p) + 1) } [.write (u.reg16 p) u.regs.a] 3).Of u
      (stAPtr p u) :=
  .ofMade (((State.Made.refl u).memWrite1 _ _ rfl).setMemptr _) rfl rfl rfl rfl rfl

theorem stAAbs_did :
    (u.does { u.regs with pc := u.regs.pc + 1 + 1, memptr := mkWord u.regs.a (loByte u.operand16 + 1) }
      [u.rd u.regs.pc, u.rd (u.regs.pc + 1), .write u.operand16 u.regs.a] 9).Of u (stAAbs u) := by
  unfold stAAbs
  refine .ofMade (((State.Made.refl u).imm16.memWrite1 _ _ rfl).setMemptr _) ?_ ?_ ?_ ?_ ?_ <;>
    simp [State.does, State.rd, busCost, BusCycle.cost, memptrAfterStA]

theorem ldPairImm_did (p : Reg16) :
    (u.does (Regs.set16 { u.regs with pc := u.regs.pc + 1 + 1 } p u.operand16)
      [u.rd u.regs.pc, u.rd (u.regs.pc + 1)] 6).Of u (ldPairImm p u) :=
  .ofMade ((State.Made.refl u).imm16.setReg16 _ _) rfl rfl rfl rfl rfl

theorem ldPairAbs_did (p : Reg16) :
    (u.does
      { Regs.set16 { u.regs with pc := u.regs.pc + 1 + 1 } p (u.peek16 u.operand16) with memptr := u.operand16 + 1 }
      [u.rd u.regs.pc, u.rd (u.regs.pc + 1), u.rd u.operand16, u.rd (u.operand16 + 1)] 12).Of u (ldPairAbs p u) :=
  .ofMade ((((State.Made.refl u).imm16.memRead16 _).setReg16 _ _).setMemptr _) rfl rfl rfl rfl rfl

theorem stPairAbs_did (p : Reg16) :
    (u.does { u.regs with pc := u.regs.pc + 1 + 1, memptr := u.operand16 + 1 }
      [u.rd u.regs.pc, u.rd (u.regs.pc + 1), .write u.operand16 (loByte (u.reg16 p)),
        .write (u.operand16 + 1) (hiByte (u.reg16 p))] 12).Of u (stPairAbs p u) :=
  .ofMade (((State.Made.refl u).imm16.memWrite16 _ _ rfl).setMemptr _) (by cases p <;> rfl) rfl rfl
    (by cases p <;> rfl) rfl

theorem ldSpPair_did (p : Reg16) : (u.does { u.regs with sp := u.reg16 p } [.wait u.ir 2] 2).Of u (ldSpPair p u) :=
  .ofMade (((State.Made.refl u).contend _ _).setSp _) rfl rfl rfl rfl rfl

theorem pushPair_did (p : Reg16) :
    (u.does { u.regs with sp := u.regs.sp - 2 }
      [.wait u.ir 1, .write (u.regs.sp - 1) (hiByte (u.reg16 p)), .write (u.regs.sp - 2) (loByte (u.reg16 p))] 7).Of u
      (pushPair p u) :=
  .ofMade (((State.Made.refl u).contend _ _).push16 _ rfl) rfl rfl rfl rfl rfl

theorem popPair_did (p : Reg16) :
    (u.does (Regs.set16 { u.regs with sp := u.regs.sp + 2 } p u.top16)
      [u.rd u.regs.sp, u.rd (u.regs.sp + 1)] 6).Of u (popPair p u) :=
  .ofMade ((State.Made.refl u).pop16.setReg16 _ _) rfl rfl rfl rfl rfl

theorem exAF_did :
    ({ u.does { u.regs with a := u.shadow.a, f := u.shadow.f } [] 0 with
        shadow := { u.shadow with a := u.regs.a, f := u.regs.f } } : Effect).Of u (exAF u) :=
  .ofMade ((((State.Made.refl u).setA _).setF _).setShadow _) rfl rfl rfl rfl rfl

theorem exx_did :
    ({ u.does { u.regs with b := u.shadow.b, c := u.shadow.c, d := u.shadow.d, e := u.shadow.e, h := u.shadow.h,
                            l := u.shadow.l } [] 0 with
        shadow := { u.shadow with b := u.regs.b, c := u.regs.c, d := u.regs.d, e := u.regs.e, h := u.regs.h,
                                  l := u.regs.l } } : Effect).Of u (exx u) :=
  .ofMade (State.Made.refl u).exx rfl rfl rfl rfl rfl

theorem exDEHL_did :
    (u.does ((u.regs.set16 .de (u.reg16 .hl)).set16 .hl (u.reg16 .de)) [] 0).Of u (exDEHL u) :=
  .ofMade (((State.Made.refl u).setReg16 _ _).setReg16 _ _) rfl rfl rfl rfl rfl

theorem exSpPair_did (p : Reg16) :
    (u.does { u.regs.set16 p (u.peek16 u.regs.sp) with memptr := u.peek16 u.regs.sp }
      [u.rd u.regs.sp, u.rd (u.regs.sp + 1), .wait (u.regs.sp + 1) 1,
        .write (u.regs.sp + 1) (hiByte (u.reg16 p)), .write u.regs.sp (loByte (u.reg16 p)), .wait u.regs.sp 2] 15).Of u
      (exSpPair p u) := by
  have m := (((((((State.Made.refl u).memRead16 u.regs.sp).contend (u.regs.sp + 1) 1).memWrite2 (u.regs.sp + 1) u.regs.sp
    (hiByte (u.reg16 p)) (loByte (u.reg16 p)) rfl (by simp)).contend u.regs.sp 2).setReg16 p (u.peek16 u.regs.sp)).setMemptr
    (u.peek16 u.regs.sp))
  apply Effect.Of.ofMade m <;> simp [State.does, State.rd, busCost, BusCycle.cost]

theorem inAImm_did :
    let port := mkWord u.regs.a u.operand
    (u.does { u.regs with pc := u.regs.pc + 1, a := u.portByte port, memptr := port + 1 }
      [u.rd u.regs.pc, .portIn port (u.portByte port)] 7).Of u (inAImm u) :=
  .ofMade ((((State.Made.refl u).imm8.portRead _).setA _).setMemptr _) rfl rfl rfl rfl rfl

theorem outImmA_did :
    (u.does { u.regs with pc := u.regs.pc + 1, memptr := mkWord u.regs.a (u.operand + 1) }
      [u.rd u.regs.pc, .portOut (mkWord u.regs.a u.operand) u.regs.a] 7).Of u (outImmA u) :=
  .ofMade (((State.Made.refl u).imm8.portWrite _ _).setMemptr _) rfl rfl rfl rfl rfl

/-! ## Arithmetic -/

theorem aluReg_did (op : AluOp) (x : Reg8) :
    (u.does (u.regs.takes (aluOut op u.regs.a (u.reg8 x) u.regs.f)) [] 0).Of u (aluReg op x u) :=
  .ofMade (((State.Made.refl u).setA _).setF _) rfl rfl rfl rfl rfl

theorem aluMem_did (op : AluOp) :
    (u.does (u.regs.takes (aluOut op u.regs.a (u.peek (u.reg16 .hl)) u.regs.f)) [u.rd (u.reg16 .hl)] 3).Of u
      (aluMem op u) :=
  .ofMade ((((State.Made.refl u).memRead _).setA _).setF _) rfl rfl rfl rfl rfl

theorem aluImm_did (op : AluOp) :
    (u.does (Regs.takes { u.regs with pc := u.regs.pc + 1 } (aluOut op u.regs.a u.operand u.regs.f))
      [u.rd u.regs.pc] 3).Of u (aluImm op u) :=
  .ofMade (((State.Made.refl u).imm8.setA _).setF _) rfl rfl rfl rfl rfl

theorem incReg_did (x : Reg8) :
    let o := inc8 (u.reg8 x) u.regs.f
    (u.does { u.regs.set8 x o.res with f := o.flags } [] 0).Of u (incReg x u) :=
  .ofMade (((State.Made.refl u).setReg8 _ _).setF _) rfl rfl rfl rfl rfl

theorem decReg_did (x : Reg8) :
    let o := dec8 (u.reg8 x) u.regs.f
    (u.does { u.regs.set8 x o.res with f := o.flags } [] 0).Of u (decReg x u) :=
  .ofMade (((State.Made.refl u).setReg8 _ _).setF _) rfl rfl rfl rfl rfl

theorem modifyMem_did (a : Word) (o : AluOut) :
    (u.does { u.regs with f := o.flags } (u.readModifyWrite a 1 o.res) 7).Of u (modifyMem a o u) := by
  unfold modifyMem
  refine .ofMade (((((State.Made.refl u).memRead _).contend _ _).memWrite1 _ _ rfl).setF _) ?_ ?_ ?_ ?_ ?_ <;>
    simp [State.does, State.rd, busCost, BusCycle.cost, State.readModifyWrite]

theorem incPair_did (p : Reg16) :
    (u.does (u.regs.set16 p (u.reg16 p + 1)) [.wait u.ir 2] 2).Of u (incPair p u) :=
  .ofMade (((State.Made.refl u).contend _ _).setReg16 _ _) rfl rfl rfl rfl rfl

theorem decPair_did (p : Reg16) :
    (u.does (u.regs.set16 p (u.reg16 p - 1)) [.wait u.ir 2] 2).Of u (decPair p u) :=
  .ofMade (((State.Made.refl u).contend _ _).setReg16 _ _) rfl rfl rfl rfl rfl

theorem addPair_did (p q : Reg16) :
    let o := add16 (u.reg16 p) (u.reg16 q) u.regs.f
    (u.does (Regs.set16 { u.regs with memptr := u.reg16 p + 1, f := o.flags } p o.res) [.wait u.ir 7] 7).Of u
      (addPair p q u) :=
  .ofMade (((((State.Made.refl u).contend _ _).setMemptr _).setF _).setReg16 _ _) rfl rfl rfl rfl rfl

theorem rotAcc_did (op : RotOp) :
    (u.does (u.regs.takes (rotateA op u.regs.a u.regs.f)) [] 0).Of u (rotAcc op u) :=
  .ofMade (((State.Made.refl u).setA _).setF _) rfl rfl rfl rfl rfl

theorem daa_did : (u.does (u.regs.takes (daaOut u.regs.a u.regs.f)) [] 0).Of u (daa u) := by
  have m := (((State.Made.refl u).setA (daaOut u.regs.a u.regs.f).res).setF (daaOut u.regs.a u.regs.f).flags)
  unfold daa
  generalize daaOut u.regs.a u.regs.f = o at *
  exact .ofMade m rfl rfl rfl rfl rfl

theorem cpl_did : (u.does (u.regs.takes (cplOut u.regs.a u.regs.f)) [] 0).Of u (cpl u) := by
  have m := (((State.Made.refl u).setA (cplOut u.regs.a u.regs.f).res).setF (cplOut u.regs.a u.regs.f).flags)
  unfold cpl
  generalize cplOut u.regs.a u.regs.f = o at *
  exact .ofMade m rfl rfl rfl rfl rfl

theorem scf_did : (u.does { u.regs with f := scfFlags u.regs.a u.regs.f } [] 0).Of u (scf u) :=
  .ofMade ((State.Made.refl u).setF _) rfl rfl rfl rfl rfl

theorem ccf_did : (u.does { u.regs with f := ccfFlags u.regs.a u.regs.f } [] 0).Of u (ccf u) :=
  .ofMade ((State.Made.refl u).setF _) rfl rfl rfl rfl rfl

/-! ## Control flow -/

theorem nop_did : (u.does u.regs [] 0).Of u (nop u) := .ofMade (State.Made.refl u) rfl rfl rfl rfl rfl

theorem jp_did :
    (u.does (u.regs.jump u.operand16) [u.rd u.regs.pc, u.rd (u.regs.pc + 1)] 6).Of u (jp u) := by
  have m := ((State.Made.refl u).imm16.setPc u.operand16).setMemptr u.operand16
  apply Effect.Of.ofMade m <;> simp [State.does, State.rd, Regs.jump, busCost, BusCycle.cost]

theorem jpCond_did (cc : Cond) :
    (u.does { u.regs with
              pc := if cc.holds u.regs.f then u.operand16 else u.regs.pc + 1 + 1
              memptr := u.operand16 } [u.rd u.regs.pc, u.rd (u.regs.pc + 1)] 6).Of u (jpCond cc u) := by
  have m := (State.Made.refl u).imm16.setMemptr u.operand16
  unfold jpCond
  cases h : cc.holds u.regs.f
  · exact .ofMade m (by simp [State.does]) rfl rfl rfl rfl
  · exact .ofMade (m.setPc u.operand16) (by simp [State.does]) rfl rfl rfl rfl

theorem jpPair_did (p : Reg16) : (u.does { u.regs with pc := u.reg16 p } [] 0).Of u (jpPair p u) :=
  .ofMade ((State.Made.refl u).setPc _) rfl rfl rfl rfl rfl

theorem relJump_did (taken : Bool) :
    (if taken then
      u.does (u.regs.jump (u.regs.pc + 1 + signExt u.operand)) [u.rd u.regs.pc, .wait u.regs.pc 5] 8
     else u.does { u.regs with pc := u.regs.pc + 1 } [u.rd u.regs.pc] 3).Of u (relJump taken u) := by
  cases taken
  · exact .ofMade (State.Made.refl u).operandRead.advance rfl rfl rfl rfl rfl
  · exact .ofMade ((((State.Made.refl u).operandRead.contend _ _).setPc _).setMemptr _) rfl rfl rfl rfl rfl

theorem djnz_did :
    let b := u.regs.b - 1
    (if b != 0 then
      u.does (Regs.jump { u.regs with b := b } (u.regs.pc + 1 + signExt u.operand))
        [.wait u.ir 1, u.rd u.regs.pc, .wait u.regs.pc 5] 9
     else u.does { u.regs with b := b, pc := u.regs.pc + 1 } [.wait u.ir 1, u.rd u.regs.pc] 4).Of u (djnz u) := by
  simp only [djnz, relJump]
  cases u.regs.b - 1 != 0
  · refine .ofMade ((((State.Made.refl u).contend _ _).setReg8 _ _).operandRead.advance) ?_ ?_ ?_ ?_ ?_ <;>
      simp [State.does, State.rd, busCost, BusCycle.cost, Regs.set8]
  · refine .ofMade ((((((State.Made.refl u).contend _ _).setReg8 _ _).operandRead.contend _ _).setPc _).setMemptr _) ?_ ?_ ?_ ?_ ?_ <;>
      simp [State.does, State.rd, busCost, BusCycle.cost, Regs.jump, Regs.set8, State.operand]

/-- The cycles of a taken call behind its operand (R287). -/
theorem callTaken_made {s u : State} {bus : List BusCycle} (h : s.Made u bus) (nn : Word) (none : storedBytes bus = []) :
    s.Made (callTaken nn u)
      (bus ++ [.wait u.regs.pc 1] ++ [.write (u.regs.sp - 1) (hiByte (u.regs.pc + 1))] ++
        [.write (u.regs.sp - 2) (loByte (u.regs.pc + 1))]) :=
  ((h.contend u.regs.pc 1).advance.push16 (u.regs.pc + 1) (by simp [storedBytes_append, none, storedBytes])).setPc nn

theorem call_did :
    (u.does (Regs.jump { u.regs with sp := u.regs.sp - 2 } u.operand16)
      [u.rd u.regs.pc, u.rd (u.regs.pc + 1), .wait (u.regs.pc + 1) 1,
        .write (u.regs.sp - 1) (hiByte (u.regs.pc + 1 + 1)), .write (u.regs.sp - 2) (loByte (u.regs.pc + 1 + 1))]
      13).Of u (call u) := by
  have m := (callTaken_made (State.Made.refl u).imm8.operandRead u.operand16 rfl).setMemptr u.operand16
  apply Effect.Of.ofMade m <;> simp [callTaken, State.does, Regs.jump, State.rd, busCost, BusCycle.cost]

theorem callCond_did (cc : Cond) :
    (if cc.holds u.regs.f then
      u.does (Regs.jump { u.regs with sp := u.regs.sp - 2 } u.operand16)
        [u.rd u.regs.pc, u.rd (u.regs.pc + 1), .wait (u.regs.pc + 1) 1,
          .write (u.regs.sp - 1) (hiByte (u.regs.pc + 1 + 1)), .write (u.regs.sp - 2) (loByte (u.regs.pc + 1 + 1))] 13
     else
      u.does { u.regs with pc := u.regs.pc + 1 + 1, memptr := u.operand16 } [u.rd u.regs.pc, u.rd (u.regs.pc + 1)]
        6).Of u (callCond cc u) := by
  have m := (State.Made.refl u).imm8.operandRead.setMemptr u.operand16
  unfold callCond
  cases h : cc.holds u.regs.f
  · apply Effect.Of.ofMade m.advance <;> simp [State.does, State.rd, busCost, BusCycle.cost]
  · apply Effect.Of.ofMade (callTaken_made m u.operand16 rfl) <;> simp [callTaken, State.does, Regs.jump, State.rd, busCost, BusCycle.cost]

theorem ret_did :
    (u.does (Regs.jump { u.regs with sp := u.regs.sp + 2 } u.top16) [u.rd u.regs.sp, u.rd (u.regs.sp + 1)] 6).Of u
      (ret u) := by
  unfold ret State.returnToCaller
  refine .ofMade (((State.Made.refl u).pop16.setPc _).setMemptr _) ?_ ?_ ?_ ?_ ?_ <;>
    simp [State.does, State.rd, busCost, BusCycle.cost, Regs.jump]

theorem retCond_did (cc : Cond) :
    (if cc.holds u.regs.f then
      u.does (Regs.jump { u.regs with sp := u.regs.sp + 2 } u.top16)
        [.wait u.ir 1, u.rd u.regs.sp, u.rd (u.regs.sp + 1)] 7
     else u.does u.regs [.wait u.ir 1] 1).Of u (retCond cc u) := by
  cases h : cc.holds u.regs.f
  · simp only [retCond, h, Bool.false_eq_true, if_false]
    refine .ofMade ((State.Made.refl u).contend _ _) ?_ ?_ ?_ ?_ ?_ <;>
      simp [State.does, busCost, BusCycle.cost]
  · simp only [retCond, State.returnToCaller, State.top16, State.peek16, h, if_true]
    refine .ofMade ((((State.Made.refl u).contend _ _).pop16.setPc _).setMemptr _) ?_ ?_ ?_ ?_ ?_ <;>
      simp [State.does, State.rd, busCost, BusCycle.cost, Regs.jump]

theorem rst_did (target : Word) :
    (u.does (Regs.jump { u.regs with sp := u.regs.sp - 2 } target)
      [.wait u.ir 1, .write (u.regs.sp - 1) (hiByte u.regs.pc), .write (u.regs.sp - 2) (loByte u.regs.pc)] 7).Of u
      (rst target u) := by
  unfold rst
  refine .ofMade (((((State.Made.refl u).contend _ _).push16 _ rfl).setPc _).setMemptr _) ?_ ?_ ?_ ?_ ?_ <;>
    simp [State.does, busCost, BusCycle.cost, Regs.jump]

theorem halt_did :
    ({ u.does { u.regs with pc := u.regs.pc - 1 } [] 0 with ctl := { u.ctl with halted := true } } : Effect).Of u
      (halt u) :=
  .ofMade (((State.Made.refl u).setPc _).setCtl _) rfl rfl rfl rfl rfl

theorem di_did :
    ({ u.does u.regs [] 0 with ctl := { u.ctl with iff1 := false, iff2 := false } } : Effect).Of u (di u) :=
  .ofMade ((State.Made.refl u).setCtl _) rfl rfl rfl rfl rfl

theorem ei_did :
    ({ u.does u.regs [] 0 with ctl := { u.ctl with iff1 := true, iff2 := true, eiJustExecuted := true } } : Effect).Of
      u (ei u) :=
  .ofMade ((State.Made.refl u).setCtl _) rfl rfl rfl rfl rfl

/-! ## Bit operations -/

theorem rotReg_did (op : RotOp) (x : Reg8) :
    let o := rotate op (u.reg8 x) u.regs.f
    (u.does { u.regs.set8 x o.res with f := o.flags } [] 0).Of u (rotReg op x u) :=
  .ofMade (((State.Made.refl u).setReg8 _ _).setF _) rfl rfl rfl rfl rfl

theorem bitReg_did (b : Nat) (x : Reg8) :
    (u.does { u.regs with f := bitFlags b (u.reg8 x) (u.reg8 x) u.regs.f } [] 0).Of u (bitReg b x u) :=
  .ofMade ((State.Made.refl u).setF _) rfl rfl rfl rfl rfl

theorem bitMem_did (b : Nat) :
    (u.does { u.regs with f := bitFlags b (u.peek (u.reg16 .hl)) (hiByte u.regs.memptr) u.regs.f }
      [u.rd (u.reg16 .hl), .wait (u.reg16 .hl) 1] 4).Of u (bitMem b u) :=
  .ofMade ((((State.Made.refl u).memRead _).contend _ _).setF _) rfl rfl rfl rfl rfl

theorem resReg_did (b : Nat) (x : Reg8) :
    (u.does (u.regs.set8 x (resBit b (u.reg8 x))) [] 0).Of u (resReg b x u) :=
  .ofMade ((State.Made.refl u).setReg8 _ _) rfl rfl rfl rfl rfl

theorem setBitReg_did (b : Nat) (x : Reg8) :
    (u.does (u.regs.set8 x (setBit b (u.reg8 x))) [] 0).Of u (setBitReg b x u) :=
  .ofMade ((State.Made.refl u).setReg8 _ _) rfl rfl rfl rfl rfl

/-! ## The ED table -/

theorem inC_did :
    let port := u.reg16 .bc
    (u.does { u.regs with memptr := port + 1, f := inFlags (u.portByte port) u.regs.f }
      [.portIn port (u.portByte port)] 4).Of u (inC u) :=
  .ofMade ((((State.Made.refl u).setMemptr _).portRead _).setF _) rfl rfl rfl rfl rfl

theorem inRegC_did (x : Reg8) :
    let port := u.reg16 .bc
    (u.does (Regs.set8 { u.regs with memptr := port + 1, f := inFlags (u.portByte port) u.regs.f } x (u.portByte port))
      [.portIn port (u.portByte port)] 4).Of u (inRegC x u) :=
  .ofMade (((((State.Made.refl u).setMemptr _).portRead _).setF _).setReg8 _ _) rfl rfl rfl rfl rfl

theorem outC_did (v : Byte) :
    (u.does { u.regs with memptr := u.reg16 .bc + 1 } [.portOut (u.reg16 .bc) v] 4).Of u (outC v u) :=
  .ofMade (((State.Made.refl u).portWrite _ _).setMemptr _) rfl rfl rfl rfl rfl

theorem sbcHL_did (p : Reg16) :
    let o := sbc16 (u.reg16 .hl) (u.reg16 p) u.regs.f
    (u.does (Regs.set16 { u.regs with memptr := u.reg16 .hl + 1, f := o.flags } .hl o.res) [.wait u.ir 7] 7).Of u
      (sbcHL p u) :=
  .ofMade (((((State.Made.refl u).contend _ _).setMemptr _).setF _).setReg16 _ _) rfl rfl rfl rfl rfl

theorem adcHL_did (p : Reg16) :
    let o := adc16 (u.reg16 .hl) (u.reg16 p) u.regs.f
    (u.does (Regs.set16 { u.regs with memptr := u.reg16 .hl + 1, f := o.flags } .hl o.res) [.wait u.ir 7] 7).Of u
      (adcHL p u) :=
  .ofMade (((((State.Made.refl u).contend _ _).setMemptr _).setF _).setReg16 _ _) rfl rfl rfl rfl rfl

theorem neg_did : (u.does (u.regs.takes (sub8 0 u.regs.a false)) [] 0).Of u (neg u) :=
  .ofMade (((State.Made.refl u).setA _).setF _) rfl rfl rfl rfl rfl

theorem returnFromInterrupt_did :
    ({ u.does (Regs.jump { u.regs with sp := u.regs.sp + 2 } u.top16) [u.rd u.regs.sp, u.rd (u.regs.sp + 1)] 6 with
        ctl := { u.ctl with iff1 := u.ctl.iff2 } } : Effect).Of u u.returnFromInterrupt := by
  unfold State.returnFromInterrupt State.returnToCaller State.top16 State.peek16
  refine .ofMade ((((State.Made.refl u).setCtl _).pop16.setPc _).setMemptr _) ?_ ?_ ?_ ?_ ?_ <;>
    simp [State.does, State.rd, busCost, BusCycle.cost, Regs.jump]

theorem setMode_did (m : IntMode) :
    ({ u.does u.regs [] 0 with ctl := { u.ctl with interruptMode := m } } : Effect).Of u (setMode m u) :=
  .ofMade ((State.Made.refl u).setCtl _) rfl rfl rfl rfl rfl

theorem ldIA_did : (u.does { u.regs with i := u.regs.a } [.wait u.ir 1] 1).Of u (ldIA u) :=
  .ofMade (((State.Made.refl u).contend _ _).setReg8 _ _) rfl rfl rfl rfl rfl

theorem ldRA_did : (u.does { u.regs with r := u.regs.a } [.wait u.ir 1] 1).Of u (ldRA u) :=
  .ofMade (((State.Made.refl u).contend _ _).setReg8 _ _) rfl rfl rfl rfl rfl

theorem ldAFrom_did (v : Byte) :
    (u.does { u.regs with a := v, f := ldAIFlags v u.regs.f u.ctl.iff2 } [.wait u.ir 1] 1).Of u (ldAFrom v u) :=
  .ofMade ((((State.Made.refl u).contend _ _).setA _).setF _) rfl rfl rfl rfl rfl

theorem rotateDigit_did (m a : Byte) :
    (u.does { u.regs with a := a, f := inFlags a u.regs.f, memptr := u.reg16 .hl + 1 }
      (u.readModifyWrite (u.reg16 .hl) 4 m) 10).Of u (rotateDigit m a u) := by
  unfold rotateDigit
  refine .ofMade (((((((State.Made.refl u).memRead _).contend _ _).memWrite1 _ _ rfl).setA _).setF _).setMemptr _) ?_ ?_ ?_ ?_ ?_ <;>
    simp [State.does, State.rd, busCost, BusCycle.cost, State.readModifyWrite]

/-! ## Block instructions -/

/-- The registers and cycles of a repetition (R416) after those of the iteration. -/
theorem repeatFrom_made {s t : State} {bus : List BusCycle} (h : s.Made t bus) (a : Word) :
    s.Made (repeatFrom a t) (bus ++ [.wait a 5]) := ((h.contend _ _).setPc _).setMemptr _

theorem blockLd_did (dir : Dir) (rep : Bool) :
    let hl := u.reg16 .hl
    let de := u.reg16 .de
    let bc := u.reg16 .bc - 1
    let v := u.peek hl
    let g :=
      { ((u.regs.set16 .bc bc).set16 .de (de + dir.step)).set16 .hl (hl + dir.step) with
        f := blockLdFlags (v + u.regs.a) u.regs.f (bc != 0) }
    let bus := [.read hl v, .write de v, .wait de 2]
    (if rep && bc != 0 then
      u.does { g with pc := u.regs.pc - 2, memptr := u.regs.pc - 2 + 1 } (bus ++ [.wait de 5]) 13
     else u.does g bus 8).Of u (blockLd dir rep u) := by
  have once := (((((((State.Made.refl u).memRead (u.reg16 .hl)).setReg16 .bc (u.reg16 .bc - 1)).memWrite1 (u.reg16 .de)
    (u.peek (u.reg16 .hl)) rfl).contend (u.reg16 .de) 2).setReg16 .de (u.reg16 .de + dir.step)).setReg16 .hl
    (u.reg16 .hl + dir.step)).setF
    (blockLdFlags (u.peek (u.reg16 .hl) + u.regs.a) u.regs.f (u.reg16 .bc - 1 != 0))
  simp only [blockLd]
  cases rep && u.reg16 .bc - 1 != 0
  · refine .ofMade once ?_ ?_ ?_ ?_ ?_ <;>
      simp [State.does, busCost, BusCycle.cost]
  · refine .ofMade (repeatFrom_made once _) ?_ ?_ ?_ ?_ ?_ <;>
      simp [State.does, busCost, BusCycle.cost, repeatFrom]

theorem blockCp_did (dir : Dir) (rep : Bool) :
    let hl := u.reg16 .hl
    let bc := u.reg16 .bc - 1
    let v := u.peek hl
    let g :=
      { (u.regs.set16 .hl (hl + dir.step)).set16 .bc bc with f := blockCpFlags u.regs.a v u.regs.f (bc != 0) }
    let bus := [u.rd hl, .wait hl 5]
    (if rep && bc != 0 && u.regs.a != v then
      u.does { g with pc := u.regs.pc - 2, memptr := u.regs.pc - 2 + 1 } (bus ++ [.wait hl 5]) 13
     else u.does { g with memptr := u.regs.memptr + dir.step } bus 8).Of u (blockCp dir rep u) := by
  have once := (((((State.Made.refl u).memRead (u.reg16 .hl)).contend (u.reg16 .hl) 5).setReg16 .hl
    (u.reg16 .hl + dir.step)).setReg16 .bc (u.reg16 .bc - 1)).setF
    (blockCpFlags u.regs.a (u.peek (u.reg16 .hl)) u.regs.f (u.reg16 .bc - 1 != 0))
  simp only [blockCp]
  cases rep && u.reg16 .bc - 1 != 0 && u.regs.a != u.peek (u.reg16 .hl)
  · refine .ofMade (once.setMemptr _) ?_ ?_ ?_ ?_ ?_ <;>
      simp [State.does, State.rd, busCost, BusCycle.cost]
  · refine .ofMade (repeatFrom_made once _) ?_ ?_ ?_ ?_ ?_ <;>
      simp [State.does, State.rd, busCost, BusCycle.cost, repeatFrom]

theorem blockIn_did (dir : Dir) (rep : Bool) :
    let hl := u.reg16 .hl
    let port := u.reg16 .bc
    let v := u.portByte port
    let b := u.regs.b - 1
    let g :=
      { Regs.set16 { u.regs with b := b, memptr := port + dir.step } .hl (hl + dir.step) with
        f := blockIoFlags v (u.regs.c + dir.step8) b }
    let bus := [.wait u.ir 1, .portIn port v, .write hl v]
    (if rep && b != 0 then
      u.does { g with pc := u.regs.pc - 2, memptr := u.regs.pc - 2 + 1 } (bus ++ [.wait hl 5]) 13
     else u.does g bus 8).Of u (blockIn dir rep u) := by
  have once := (((((((State.Made.refl u).contend u.ir 1).portRead (u.reg16 .bc)).memWrite1 (u.reg16 .hl)
    (u.portByte (u.reg16 .bc)) rfl).setMemptr (u.reg16 .bc + dir.step)).setReg8 .b (u.regs.b - 1)).setReg16 .hl
    (u.reg16 .hl + dir.step)).setF
    (blockIoFlags (u.portByte (u.reg16 .bc)) (u.regs.c + dir.step8) (u.regs.b - 1))
  simp only [blockIn]
  cases rep && u.regs.b - 1 != 0
  · refine .ofMade once ?_ ?_ ?_ ?_ ?_ <;>
      simp [State.does, busCost, BusCycle.cost, Regs.set8, Regs.set16]
  · refine .ofMade (repeatFrom_made once _) ?_ ?_ ?_ ?_ ?_ <;>
      simp [State.does, busCost, BusCycle.cost, repeatFrom, Regs.set8, Regs.set16]

theorem blockOut_did (dir : Dir) (rep : Bool) :
    let hl := u.reg16 .hl
    let v := u.peek hl
    let b := u.regs.b - 1
    let port := mkWord b u.regs.c
    let g :=
      { Regs.set16 { u.regs with b := b, memptr := port + dir.step } .hl (hl + dir.step) with
        f := blockIoFlags v (loByte (hl + dir.step)) b }
    let bus := [.wait u.ir 1, u.rd hl, .portOut port v]
    (if rep && b != 0 then
      u.does { g with pc := u.regs.pc - 2, memptr := u.regs.pc - 2 + 1 } (bus ++ [.wait port 5]) 13
     else u.does g bus 8).Of u (blockOut dir rep u) := by
  have once := (((((((State.Made.refl u).contend u.ir 1).memRead (u.reg16 .hl)).setReg8 .b (u.regs.b - 1)).setMemptr
    (mkWord (u.regs.b - 1) u.regs.c + dir.step)).portWrite (mkWord (u.regs.b - 1) u.regs.c)
    (u.peek (u.reg16 .hl))).setReg16 .hl (u.reg16 .hl + dir.step)).setF
    (blockIoFlags (u.peek (u.reg16 .hl)) (loByte (u.reg16 .hl + dir.step)) (u.regs.b - 1))
  simp only [blockOut]
  cases rep && u.regs.b - 1 != 0
  · refine .ofMade once ?_ ?_ ?_ ?_ ?_ <;>
      simp [State.does, State.rd, busCost, BusCycle.cost, Regs.set8, Regs.set16]
  · refine .ofMade (repeatFrom_made once _) ?_ ?_ ?_ ?_ ?_ <;>
      simp [State.does, State.rd, busCost, BusCycle.cost, repeatFrom, Regs.set8, Regs.set16]

/-! ## The byte at an index register plus a displacement -/

/-- The cycles of `EA()` (R431). -/
theorem effectiveAddress_made {s t : State} {bus : List BusCycle} (h : s.Made t bus) (ii : Idx) :
    s.Made (t.effectiveAddress ii) (bus ++ [t.rd t.regs.pc] ++ [.wait t.regs.pc 5]) :=
  ((h.operandRead.contend _ _).advance).setMemptr _

/-- The cycles of the operand fetch behind `pp CB` (R490). -/
theorem indexedCbOperand_made {s t : State} {bus : List BusCycle} (h : s.Made t bus) (ii : Idx) :
    s.Made (t.indexedCbOperand ii)
      (bus ++ [t.rd t.regs.pc] ++ [t.rd (t.regs.pc + 1)] ++ [.wait (t.regs.pc + 1) 2] ++ [t.rd (t.indexed ii)] ++
        [.wait (t.indexed ii) 1]) :=
  ((((h.imm8.operandRead.contend _ _).advance).setMemptr _).memRead _).contend _ _

theorem modifyIdx_did (o : AluOut) (ii : Idx) :
    (u.does { u.regs with pc := u.regs.pc + 1, memptr := u.indexed ii, f := o.flags }
      ([u.rd u.regs.pc, .wait u.regs.pc 5] ++ u.readModifyWrite (u.indexed ii) 1 o.res) 15).Of u
      (modifyMem (u.indexed ii) o (u.effectiveAddress ii)) :=
  .ofMade (((((effectiveAddress_made (State.Made.refl u) ii).memRead _).contend _ _).memWrite1 _ _ rfl).setF _)
    rfl rfl rfl rfl rfl

theorem stIdxImm_did (ii : Idx) :
    (u.does { u.regs with pc := u.regs.pc + 1 + 1, memptr := u.indexed ii }
      [u.rd u.regs.pc, u.rd (u.regs.pc + 1), .wait (u.regs.pc + 1) 2, .write (u.indexed ii) u.imm8.operand] 11).Of u
      (stIdxImm ii u) := by
  unfold stIdxImm
  refine .ofMade (((((State.Made.refl u).imm8.operandRead.contend _ _).advance).setMemptr _).memWrite1 _ _ rfl) ?_ ?_ ?_ ?_ ?_ <;>
    simp [State.does, State.rd, busCost, BusCycle.cost]

theorem ldRegIdx_did (x : Reg8) (ii : Idx) :
    (u.does (Regs.set8 { u.regs with pc := u.regs.pc + 1, memptr := u.indexed ii } x (u.peek (u.indexed ii)))
      [u.rd u.regs.pc, .wait u.regs.pc 5, u.rd (u.indexed ii)] 11).Of u (ldRegIdx x ii u) :=
  .ofMade (((effectiveAddress_made (State.Made.refl u) ii).memRead _).setReg8 _ _) rfl rfl rfl rfl rfl

theorem stIdxReg_did (x : Reg8) (ii : Idx) :
    (u.does { u.regs with pc := u.regs.pc + 1, memptr := u.indexed ii }
      [u.rd u.regs.pc, .wait u.regs.pc 5, .write (u.indexed ii) (u.reg8 x)] 11).Of u (stIdxReg x ii u) :=
  .ofMade ((effectiveAddress_made (State.Made.refl u) ii).memWrite1 _ _ rfl) rfl rfl rfl rfl rfl

theorem aluIdx_did (op : AluOp) (ii : Idx) :
    (u.does
      (Regs.takes { u.regs with pc := u.regs.pc + 1, memptr := u.indexed ii }
        (aluOut op u.regs.a (u.peek (u.indexed ii)) u.regs.f))
      [u.rd u.regs.pc, .wait u.regs.pc 5, u.rd (u.indexed ii)] 11).Of u (aluIdx op ii u) :=
  .ofMade ((((effectiveAddress_made (State.Made.refl u) ii).memRead _).setA _).setF _) rfl rfl rfl rfl rfl

/-- The cycles that every DDCB and FDCB instruction begins with. -/
def idxCbCycles (ii : Idx) : List BusCycle :=
  [u.rd u.regs.pc, u.rd (u.regs.pc + 1), .wait (u.regs.pc + 1) 2, u.rd (u.indexed ii), .wait (u.indexed ii) 1]

theorem bitIdx_did (b : Nat) (ii : Idx) :
    (u.does
      { u.regs with
        pc := u.regs.pc + 1 + 1
        memptr := u.indexed ii
        f := bitFlags b (u.peek (u.indexed ii)) (hiByte (u.indexed ii)) u.regs.f }
      (idxCbCycles u ii) 12).Of u (bitIdx b ii u) := by
  have m := (indexedCbOperand_made (State.Made.refl u) ii).setF
    (bitFlags b (u.peek (u.indexed ii)) (hiByte (u.indexed ii)) u.regs.f)
  apply Effect.Of.ofMade m <;>
    simp [State.indexedCbOperand, idxCbCycles, State.does, State.rd, busCost, BusCycle.cost]

theorem writeIdx_did (o : AluOut) (ii : Idx) :
    (u.does { u.regs with pc := u.regs.pc + 1 + 1, memptr := u.indexed ii, f := o.flags }
      (idxCbCycles u ii ++ [.write (u.indexed ii) o.res]) 15).Of u (writeIdx ii o u) := by
  have m := ((indexedCbOperand_made (State.Made.refl u) ii).memWrite1 (u.indexed ii) o.res rfl).setF o.flags
  apply Effect.Of.ofMade m <;>
    simp [State.indexedCbOperand, idxCbCycles, State.does, State.rd, busCost, BusCycle.cost]

theorem writeIdxReg_did (o : AluOut) (x : Reg8) (ii : Idx) :
    (u.does (Regs.set8 { u.regs with pc := u.regs.pc + 1 + 1, memptr := u.indexed ii, f := o.flags } x o.res)
      (idxCbCycles u ii ++ [.write (u.indexed ii) o.res]) 15).Of u ((writeIdx ii o u).setReg8 x o.res) := by
  have m := (((indexedCbOperand_made (State.Made.refl u) ii).memWrite1 (u.indexed ii) o.res rfl).setF o.flags).setReg8 x o.res
  apply Effect.Of.ofMade m <;>
    simp [State.indexedCbOperand, idxCbCycles, State.does, State.rd, busCost, BusCycle.cost]

/-! ## Taking an interrupt, and the halted step -/

/-- What an acceptance does before its push: the way out of the halted state and the acknowledge cycle's count. -/
theorem leaveHalt_ackRefresh {s u : State} {bus : List BusCycle} (h : s.Made u bus) :
    s.Made u.leaveHalt.ackRefresh bus ∧ u.leaveHalt.ackRefresh.mem = u.mem ∧
      u.leaveHalt.ackRefresh.platform = u.platform ∧ u.leaveHalt.ackRefresh.shadow = u.shadow ∧
      u.leaveHalt.ackRefresh.ctl = { u.ctl with halted := false } ∧
      u.leaveHalt.ackRefresh.regs =
        { u.regs with
          pc := if u.ctl.halted then u.regs.pc + 1 else u.regs.pc
          r := if u.platform.ackIncrementsR then nextR u.regs.r else u.regs.r } := by
  unfold State.leaveHalt State.ackRefresh
  cases hh : u.ctl.halted <;> cases hr : u.platform.ackIncrementsR
  · have e : u.ctl = { u.ctl with halted := false } := by rw [← hh]
    simp [hr, h, ← e]
  · have e : u.ctl = { u.ctl with halted := false } := by rw [← hh]
    simp [hr, h.refresh, ← e]
  · simp [hr, h.advance.setCtl]
  · simp [hr, (h.advance.setCtl _).refresh]

/-- Taking an interrupt (R504, R506, R507). -/
theorem takeInterrupt_did (u : State) (v : Vector) (cost : Nat) :
    let sp := u.regs.sp
    let pc := if u.ctl.halted then u.regs.pc + 1 else u.regs.pc
    let r := if u.platform.ackIncrementsR then nextR u.regs.r else u.regs.r
    let stacked := (u.poke (sp - 1) (hiByte pc)).poke (sp - 2) (loByte pc)
    ({ u.does (Regs.jump { u.regs with sp := sp - 2, r := r } (v.target stacked))
        ([.write (sp - 1) (hiByte pc), .write (sp - 2) (loByte pc)] ++
          (match v with
            | .fixed _ => []
            | .indirect a => [stacked.rd a, stacked.rd (a + 1)]) ++ [.ack cost])
        (6 + (match v with
            | .fixed _ => 0
            | .indirect _ => 6) + cost) with
        ctl := { u.ctl with halted := false } } : Effect).Of u (u.takeInterrupt v cost) := by
  obtain ⟨p, hm, hp, hs, hc, hg⟩ := leaveHalt_ackRefresh (State.Made.refl u)
  have q := p.push16 u.leaveHalt.ackRefresh.regs.pc rfl
  have same : ∀ a, (u.leaveHalt.ackRefresh.push16 u.leaveHalt.ackRefresh.regs.pc).peek a =
      ((u.poke (u.regs.sp - 1) (hiByte u.leaveHalt.ackRefresh.regs.pc)).poke (u.regs.sp - 2)
        (loByte u.leaveHalt.ackRefresh.regs.pc)).peek a := by
    intro a
    simp only [State.peek, State.push16, State.poke, State.memWrite, State.setSp, State.record, State.contend, hm, hp, hg]
  unfold State.takeInterrupt
  simp only [hg] at q same ⊢
  cases v with
  | fixed w =>
    refine .ofMade (((q.setPc _).setMemptr _).spend cost) ?_ ?_ ?_ ?_ ?_ <;>
      simp [Vector.bus, Vector.target, State.does, Regs.jump, busCost, BusCycle.cost, hg, hc, hs]
    omega
  | indirect a =>
    refine .ofMade ((((q.memRead16 a).setPc _).setMemptr _).spend cost) ?_ ?_ ?_ ?_ ?_
    · simp only [Vector.bus, Vector.target, State.peek16, same]
      simp [State.does, Regs.jump, hg]
    · simp [Vector.bus, State.does, hs]
    · simp [Vector.bus, hc]
    · simp only [State.does, State.rd, same]
      simp
    · simp [State.does, State.rd, busCost, BusCycle.cost]
      omega

/-- A step in the halted state that takes no interrupt (R509). -/
theorem haltedCycle_did : (u.does { u.regs with r := nextR u.regs.r } [.fetch u.regs.pc] 4).Of u u.haltedCycle :=
  .ofMade ((State.Made.refl u).plainCycle (.fetch u.regs.pc) rfl rfl rfl rfl rfl rfl rfl rfl) rfl rfl rfl rfl rfl

end Sys2Proof.Machine
end

