-- ==== Sys2Proof/Laws/PerInstr.lean ====
section
/-! SUPPORT. Laws per instruction. `CodeLength`: the decoder's length rule agrees with the encoder. -/

namespace Sys2Proof.Laws.CodeLength

/-- The length that the decoder reads from the first bytes of an encoding is the encoding's own, 1 to 4
(30_encoding.md R110, R117). A prefix row is left out: the step goes on after it. -/
def holdsOf (i : Instr) (u v : Byte) : Bool :=
  i.isPrefix ||
    match encode i u v with
    | [] => false
    | [b] => codeSize b 0 == 1
    | b0 :: b1 :: rest => codeSize b0 b1 == rest.length + 2 && decide (rest.length ≤ 2)

/-- The law: it holds of every well-formed instruction. -/
def Statement (i : Instr) : Prop := i.wellFormed = true → ∀ u v, holdsOf i u v = true

theorem nopEd (op : Byte) : Statement (.nopEd op) := by
  intro h u v
  have e : holdsOf (.nopEd op) u v = holdsOf (.nopEd op) 0 0 := rfl
  rw [e]; clear e; revert h; revert op; decide
theorem neg (y : BitVec 3) : Statement (.neg y) := by
  intro h u v
  have e : holdsOf (.neg y) u v = holdsOf (.neg y) 0 0 := rfl
  rw [e]; clear e; revert h; revert y; decide
theorem retn (y : BitVec 3) : Statement (.retn y) := by
  intro h u v
  have e : holdsOf (.retn y) u v = holdsOf (.retn y) 0 0 := rfl
  rw [e]; clear e; revert h; revert y; decide
theorem im0 (y : BitVec 3) : Statement (.im0 y) := by
  intro h u v
  have e : holdsOf (.im0 y) u v = holdsOf (.im0 y) 0 0 := rfl
  rw [e]; clear e; revert h; revert y; decide
theorem im1 (y : BitVec 3) : Statement (.im1 y) := by
  intro h u v
  have e : holdsOf (.im1 y) u v = holdsOf (.im1 y) 0 0 := rfl
  rw [e]; clear e; revert h; revert y; decide
theorem im2 (y : BitVec 3) : Statement (.im2 y) := by
  intro h u v
  have e : holdsOf (.im2 y) u v = holdsOf (.im2 y) 0 0 := rfl
  rw [e]; clear e; revert h; revert y; decide
theorem nopPfx (pp : Idx) : Statement (.nopPfx pp) := by cases pp <;> exact fun _ _ _ => rfl
theorem ldBCImm16Pfx (pp : Idx) : Statement (.ldBCImm16Pfx pp) := by cases pp <;> exact fun _ _ _ => rfl
theorem ldAtBCAPfx (pp : Idx) : Statement (.ldAtBCAPfx pp) := by cases pp <;> exact fun _ _ _ => rfl
theorem incBCPfx (pp : Idx) : Statement (.incBCPfx pp) := by cases pp <;> exact fun _ _ _ => rfl
theorem incBPfx (pp : Idx) : Statement (.incBPfx pp) := by cases pp <;> exact fun _ _ _ => rfl
theorem decBPfx (pp : Idx) : Statement (.decBPfx pp) := by cases pp <;> exact fun _ _ _ => rfl
theorem ldBImmPfx (pp : Idx) : Statement (.ldBImmPfx pp) := by cases pp <;> exact fun _ _ _ => rfl
theorem rlcaPfx (pp : Idx) : Statement (.rlcaPfx pp) := by cases pp <;> exact fun _ _ _ => rfl
theorem exAFAFAltPfx (pp : Idx) : Statement (.exAFAFAltPfx pp) := by cases pp <;> exact fun _ _ _ => rfl
theorem ldAAtBCPfx (pp : Idx) : Statement (.ldAAtBCPfx pp) := by cases pp <;> exact fun _ _ _ => rfl
theorem decBCPfx (pp : Idx) : Statement (.decBCPfx pp) := by cases pp <;> exact fun _ _ _ => rfl
theorem incCPfx (pp : Idx) : Statement (.incCPfx pp) := by cases pp <;> exact fun _ _ _ => rfl
theorem decCPfx (pp : Idx) : Statement (.decCPfx pp) := by cases pp <;> exact fun _ _ _ => rfl
theorem ldCImmPfx (pp : Idx) : Statement (.ldCImmPfx pp) := by cases pp <;> exact fun _ _ _ => rfl
theorem rrcaPfx (pp : Idx) : Statement (.rrcaPfx pp) := by cases pp <;> exact fun _ _ _ => rfl
theorem djnzRelPfx (pp : Idx) : Statement (.djnzRelPfx pp) := by cases pp <;> exact fun _ _ _ => rfl
theorem ldDEImm16Pfx (pp : Idx) : Statement (.ldDEImm16Pfx pp) := by cases pp <;> exact fun _ _ _ => rfl
theorem ldAtDEAPfx (pp : Idx) : Statement (.ldAtDEAPfx pp) := by cases pp <;> exact fun _ _ _ => rfl
theorem incDEPfx (pp : Idx) : Statement (.incDEPfx pp) := by cases pp <;> exact fun _ _ _ => rfl
theorem incDPfx (pp : Idx) : Statement (.incDPfx pp) := by cases pp <;> exact fun _ _ _ => rfl
theorem decDPfx (pp : Idx) : Statement (.decDPfx pp) := by cases pp <;> exact fun _ _ _ => rfl
theorem ldDImmPfx (pp : Idx) : Statement (.ldDImmPfx pp) := by cases pp <;> exact fun _ _ _ => rfl
theorem rlaPfx (pp : Idx) : Statement (.rlaPfx pp) := by cases pp <;> exact fun _ _ _ => rfl
theorem jrRelPfx (pp : Idx) : Statement (.jrRelPfx pp) := by cases pp <;> exact fun _ _ _ => rfl
theorem ldAAtDEPfx (pp : Idx) : Statement (.ldAAtDEPfx pp) := by cases pp <;> exact fun _ _ _ => rfl
theorem decDEPfx (pp : Idx) : Statement (.decDEPfx pp) := by cases pp <;> exact fun _ _ _ => rfl
theorem incEPfx (pp : Idx) : Statement (.incEPfx pp) := by cases pp <;> exact fun _ _ _ => rfl
theorem decEPfx (pp : Idx) : Statement (.decEPfx pp) := by cases pp <;> exact fun _ _ _ => rfl
theorem ldEImmPfx (pp : Idx) : Statement (.ldEImmPfx pp) := by cases pp <;> exact fun _ _ _ => rfl
theorem rraPfx (pp : Idx) : Statement (.rraPfx pp) := by cases pp <;> exact fun _ _ _ => rfl
theorem jrNZRelPfx (pp : Idx) : Statement (.jrNZRelPfx pp) := by cases pp <;> exact fun _ _ _ => rfl
theorem daaPfx (pp : Idx) : Statement (.daaPfx pp) := by cases pp <;> exact fun _ _ _ => rfl
theorem jrZRelPfx (pp : Idx) : Statement (.jrZRelPfx pp) := by cases pp <;> exact fun _ _ _ => rfl
theorem cplPfx (pp : Idx) : Statement (.cplPfx pp) := by cases pp <;> exact fun _ _ _ => rfl
theorem jrNCRelPfx (pp : Idx) : Statement (.jrNCRelPfx pp) := by cases pp <;> exact fun _ _ _ => rfl
theorem ldSPImm16Pfx (pp : Idx) : Statement (.ldSPImm16Pfx pp) := by cases pp <;> exact fun _ _ _ => rfl
theorem ldAtAbsAPfx (pp : Idx) : Statement (.ldAtAbsAPfx pp) := by cases pp <;> exact fun _ _ _ => rfl
theorem incSPPfx (pp : Idx) : Statement (.incSPPfx pp) := by cases pp <;> exact fun _ _ _ => rfl
theorem scfPfx (pp : Idx) : Statement (.scfPfx pp) := by cases pp <;> exact fun _ _ _ => rfl
theorem jrCRelPfx (pp : Idx) : Statement (.jrCRelPfx pp) := by cases pp <;> exact fun _ _ _ => rfl
theorem ldAAtAbsPfx (pp : Idx) : Statement (.ldAAtAbsPfx pp) := by cases pp <;> exact fun _ _ _ => rfl
theorem decSPPfx (pp : Idx) : Statement (.decSPPfx pp) := by cases pp <;> exact fun _ _ _ => rfl
theorem incAPfx (pp : Idx) : Statement (.incAPfx pp) := by cases pp <;> exact fun _ _ _ => rfl
theorem decAPfx (pp : Idx) : Statement (.decAPfx pp) := by cases pp <;> exact fun _ _ _ => rfl
theorem ldAImmPfx (pp : Idx) : Statement (.ldAImmPfx pp) := by cases pp <;> exact fun _ _ _ => rfl
theorem ccfPfx (pp : Idx) : Statement (.ccfPfx pp) := by cases pp <;> exact fun _ _ _ => rfl
theorem ldBBPfx (pp : Idx) : Statement (.ldBBPfx pp) := by cases pp <;> exact fun _ _ _ => rfl
theorem ldBCPfx (pp : Idx) : Statement (.ldBCPfx pp) := by cases pp <;> exact fun _ _ _ => rfl
theorem ldBDPfx (pp : Idx) : Statement (.ldBDPfx pp) := by cases pp <;> exact fun _ _ _ => rfl
theorem ldBEPfx (pp : Idx) : Statement (.ldBEPfx pp) := by cases pp <;> exact fun _ _ _ => rfl
theorem ldBAPfx (pp : Idx) : Statement (.ldBAPfx pp) := by cases pp <;> exact fun _ _ _ => rfl
theorem ldCBPfx (pp : Idx) : Statement (.ldCBPfx pp) := by cases pp <;> exact fun _ _ _ => rfl
theorem ldCCPfx (pp : Idx) : Statement (.ldCCPfx pp) := by cases pp <;> exact fun _ _ _ => rfl
theorem ldCDPfx (pp : Idx) : Statement (.ldCDPfx pp) := by cases pp <;> exact fun _ _ _ => rfl
theorem ldCEPfx (pp : Idx) : Statement (.ldCEPfx pp) := by cases pp <;> exact fun _ _ _ => rfl
theorem ldCAPfx (pp : Idx) : Statement (.ldCAPfx pp) := by cases pp <;> exact fun _ _ _ => rfl
theorem ldDBPfx (pp : Idx) : Statement (.ldDBPfx pp) := by cases pp <;> exact fun _ _ _ => rfl
theorem ldDCPfx (pp : Idx) : Statement (.ldDCPfx pp) := by cases pp <;> exact fun _ _ _ => rfl
theorem ldDDPfx (pp : Idx) : Statement (.ldDDPfx pp) := by cases pp <;> exact fun _ _ _ => rfl
theorem ldDEPfx (pp : Idx) : Statement (.ldDEPfx pp) := by cases pp <;> exact fun _ _ _ => rfl
theorem ldDAPfx (pp : Idx) : Statement (.ldDAPfx pp) := by cases pp <;> exact fun _ _ _ => rfl
theorem ldEBPfx (pp : Idx) : Statement (.ldEBPfx pp) := by cases pp <;> exact fun _ _ _ => rfl
theorem ldECPfx (pp : Idx) : Statement (.ldECPfx pp) := by cases pp <;> exact fun _ _ _ => rfl
theorem ldEDPfx (pp : Idx) : Statement (.ldEDPfx pp) := by cases pp <;> exact fun _ _ _ => rfl
theorem ldEEPfx (pp : Idx) : Statement (.ldEEPfx pp) := by cases pp <;> exact fun _ _ _ => rfl
theorem ldEAPfx (pp : Idx) : Statement (.ldEAPfx pp) := by cases pp <;> exact fun _ _ _ => rfl
theorem haltPfx (pp : Idx) : Statement (.haltPfx pp) := by cases pp <;> exact fun _ _ _ => rfl
theorem ldABPfx (pp : Idx) : Statement (.ldABPfx pp) := by cases pp <;> exact fun _ _ _ => rfl
theorem ldACPfx (pp : Idx) : Statement (.ldACPfx pp) := by cases pp <;> exact fun _ _ _ => rfl
theorem ldADPfx (pp : Idx) : Statement (.ldADPfx pp) := by cases pp <;> exact fun _ _ _ => rfl
theorem ldAEPfx (pp : Idx) : Statement (.ldAEPfx pp) := by cases pp <;> exact fun _ _ _ => rfl
theorem ldAAPfx (pp : Idx) : Statement (.ldAAPfx pp) := by cases pp <;> exact fun _ _ _ => rfl
theorem addABPfx (pp : Idx) : Statement (.addABPfx pp) := by cases pp <;> exact fun _ _ _ => rfl
theorem addACPfx (pp : Idx) : Statement (.addACPfx pp) := by cases pp <;> exact fun _ _ _ => rfl
theorem addADPfx (pp : Idx) : Statement (.addADPfx pp) := by cases pp <;> exact fun _ _ _ => rfl
theorem addAEPfx (pp : Idx) : Statement (.addAEPfx pp) := by cases pp <;> exact fun _ _ _ => rfl
theorem addAAPfx (pp : Idx) : Statement (.addAAPfx pp) := by cases pp <;> exact fun _ _ _ => rfl
theorem adcABPfx (pp : Idx) : Statement (.adcABPfx pp) := by cases pp <;> exact fun _ _ _ => rfl
theorem adcACPfx (pp : Idx) : Statement (.adcACPfx pp) := by cases pp <;> exact fun _ _ _ => rfl
theorem adcADPfx (pp : Idx) : Statement (.adcADPfx pp) := by cases pp <;> exact fun _ _ _ => rfl
theorem adcAEPfx (pp : Idx) : Statement (.adcAEPfx pp) := by cases pp <;> exact fun _ _ _ => rfl
theorem adcAAPfx (pp : Idx) : Statement (.adcAAPfx pp) := by cases pp <;> exact fun _ _ _ => rfl
theorem subBPfx (pp : Idx) : Statement (.subBPfx pp) := by cases pp <;> exact fun _ _ _ => rfl
theorem subCPfx (pp : Idx) : Statement (.subCPfx pp) := by cases pp <;> exact fun _ _ _ => rfl
theorem subDPfx (pp : Idx) : Statement (.subDPfx pp) := by cases pp <;> exact fun _ _ _ => rfl
theorem subEPfx (pp : Idx) : Statement (.subEPfx pp) := by cases pp <;> exact fun _ _ _ => rfl
theorem subAPfx (pp : Idx) : Statement (.subAPfx pp) := by cases pp <;> exact fun _ _ _ => rfl
theorem sbcABPfx (pp : Idx) : Statement (.sbcABPfx pp) := by cases pp <;> exact fun _ _ _ => rfl
theorem sbcACPfx (pp : Idx) : Statement (.sbcACPfx pp) := by cases pp <;> exact fun _ _ _ => rfl
theorem sbcADPfx (pp : Idx) : Statement (.sbcADPfx pp) := by cases pp <;> exact fun _ _ _ => rfl
theorem sbcAEPfx (pp : Idx) : Statement (.sbcAEPfx pp) := by cases pp <;> exact fun _ _ _ => rfl
theorem sbcAAPfx (pp : Idx) : Statement (.sbcAAPfx pp) := by cases pp <;> exact fun _ _ _ => rfl
theorem andBPfx (pp : Idx) : Statement (.andBPfx pp) := by cases pp <;> exact fun _ _ _ => rfl
theorem andCPfx (pp : Idx) : Statement (.andCPfx pp) := by cases pp <;> exact fun _ _ _ => rfl
theorem andDPfx (pp : Idx) : Statement (.andDPfx pp) := by cases pp <;> exact fun _ _ _ => rfl
theorem andEPfx (pp : Idx) : Statement (.andEPfx pp) := by cases pp <;> exact fun _ _ _ => rfl
theorem andAPfx (pp : Idx) : Statement (.andAPfx pp) := by cases pp <;> exact fun _ _ _ => rfl
theorem xorBPfx (pp : Idx) : Statement (.xorBPfx pp) := by cases pp <;> exact fun _ _ _ => rfl
theorem xorCPfx (pp : Idx) : Statement (.xorCPfx pp) := by cases pp <;> exact fun _ _ _ => rfl
theorem xorDPfx (pp : Idx) : Statement (.xorDPfx pp) := by cases pp <;> exact fun _ _ _ => rfl
theorem xorEPfx (pp : Idx) : Statement (.xorEPfx pp) := by cases pp <;> exact fun _ _ _ => rfl
theorem xorAPfx (pp : Idx) : Statement (.xorAPfx pp) := by cases pp <;> exact fun _ _ _ => rfl
theorem orBPfx (pp : Idx) : Statement (.orBPfx pp) := by cases pp <;> exact fun _ _ _ => rfl
theorem orCPfx (pp : Idx) : Statement (.orCPfx pp) := by cases pp <;> exact fun _ _ _ => rfl
theorem orDPfx (pp : Idx) : Statement (.orDPfx pp) := by cases pp <;> exact fun _ _ _ => rfl
theorem orEPfx (pp : Idx) : Statement (.orEPfx pp) := by cases pp <;> exact fun _ _ _ => rfl
theorem orAPfx (pp : Idx) : Statement (.orAPfx pp) := by cases pp <;> exact fun _ _ _ => rfl
theorem cpBPfx (pp : Idx) : Statement (.cpBPfx pp) := by cases pp <;> exact fun _ _ _ => rfl
theorem cpCPfx (pp : Idx) : Statement (.cpCPfx pp) := by cases pp <;> exact fun _ _ _ => rfl
theorem cpDPfx (pp : Idx) : Statement (.cpDPfx pp) := by cases pp <;> exact fun _ _ _ => rfl
theorem cpEPfx (pp : Idx) : Statement (.cpEPfx pp) := by cases pp <;> exact fun _ _ _ => rfl
theorem cpAPfx (pp : Idx) : Statement (.cpAPfx pp) := by cases pp <;> exact fun _ _ _ => rfl
theorem retNZPfx (pp : Idx) : Statement (.retNZPfx pp) := by cases pp <;> exact fun _ _ _ => rfl
theorem popBCPfx (pp : Idx) : Statement (.popBCPfx pp) := by cases pp <;> exact fun _ _ _ => rfl
theorem jpNZImm16Pfx (pp : Idx) : Statement (.jpNZImm16Pfx pp) := by cases pp <;> exact fun _ _ _ => rfl
theorem jpImm16Pfx (pp : Idx) : Statement (.jpImm16Pfx pp) := by cases pp <;> exact fun _ _ _ => rfl
theorem callNZImm16Pfx (pp : Idx) : Statement (.callNZImm16Pfx pp) := by cases pp <;> exact fun _ _ _ => rfl
theorem pushBCPfx (pp : Idx) : Statement (.pushBCPfx pp) := by cases pp <;> exact fun _ _ _ => rfl
theorem addAImmPfx (pp : Idx) : Statement (.addAImmPfx pp) := by cases pp <;> exact fun _ _ _ => rfl
theorem rst00Pfx (pp : Idx) : Statement (.rst00Pfx pp) := by cases pp <;> exact fun _ _ _ => rfl
theorem retZPfx (pp : Idx) : Statement (.retZPfx pp) := by cases pp <;> exact fun _ _ _ => rfl
theorem retPfx (pp : Idx) : Statement (.retPfx pp) := by cases pp <;> exact fun _ _ _ => rfl
theorem jpZImm16Pfx (pp : Idx) : Statement (.jpZImm16Pfx pp) := by cases pp <;> exact fun _ _ _ => rfl
theorem callZImm16Pfx (pp : Idx) : Statement (.callZImm16Pfx pp) := by cases pp <;> exact fun _ _ _ => rfl
theorem callImm16Pfx (pp : Idx) : Statement (.callImm16Pfx pp) := by cases pp <;> exact fun _ _ _ => rfl
theorem adcAImmPfx (pp : Idx) : Statement (.adcAImmPfx pp) := by cases pp <;> exact fun _ _ _ => rfl
theorem rst08Pfx (pp : Idx) : Statement (.rst08Pfx pp) := by cases pp <;> exact fun _ _ _ => rfl
theorem retNCPfx (pp : Idx) : Statement (.retNCPfx pp) := by cases pp <;> exact fun _ _ _ => rfl
theorem popDEPfx (pp : Idx) : Statement (.popDEPfx pp) := by cases pp <;> exact fun _ _ _ => rfl
theorem jpNCImm16Pfx (pp : Idx) : Statement (.jpNCImm16Pfx pp) := by cases pp <;> exact fun _ _ _ => rfl
theorem outAtImmAPfx (pp : Idx) : Statement (.outAtImmAPfx pp) := by cases pp <;> exact fun _ _ _ => rfl
theorem callNCImm16Pfx (pp : Idx) : Statement (.callNCImm16Pfx pp) := by cases pp <;> exact fun _ _ _ => rfl
theorem pushDEPfx (pp : Idx) : Statement (.pushDEPfx pp) := by cases pp <;> exact fun _ _ _ => rfl
theorem subImmPfx (pp : Idx) : Statement (.subImmPfx pp) := by cases pp <;> exact fun _ _ _ => rfl
theorem rst10Pfx (pp : Idx) : Statement (.rst10Pfx pp) := by cases pp <;> exact fun _ _ _ => rfl
theorem retCPfx (pp : Idx) : Statement (.retCPfx pp) := by cases pp <;> exact fun _ _ _ => rfl
theorem exxPfx (pp : Idx) : Statement (.exxPfx pp) := by cases pp <;> exact fun _ _ _ => rfl
theorem jpCImm16Pfx (pp : Idx) : Statement (.jpCImm16Pfx pp) := by cases pp <;> exact fun _ _ _ => rfl
theorem inAAtImmPfx (pp : Idx) : Statement (.inAAtImmPfx pp) := by cases pp <;> exact fun _ _ _ => rfl
theorem callCImm16Pfx (pp : Idx) : Statement (.callCImm16Pfx pp) := by cases pp <;> exact fun _ _ _ => rfl
theorem prefixDDChain (pp : Idx) : Statement (.prefixDDChain pp) := by cases pp <;> exact fun _ _ _ => rfl
theorem sbcAImmPfx (pp : Idx) : Statement (.sbcAImmPfx pp) := by cases pp <;> exact fun _ _ _ => rfl
theorem rst18Pfx (pp : Idx) : Statement (.rst18Pfx pp) := by cases pp <;> exact fun _ _ _ => rfl
theorem retPOPfx (pp : Idx) : Statement (.retPOPfx pp) := by cases pp <;> exact fun _ _ _ => rfl
theorem jpPOImm16Pfx (pp : Idx) : Statement (.jpPOImm16Pfx pp) := by cases pp <;> exact fun _ _ _ => rfl
theorem callPOImm16Pfx (pp : Idx) : Statement (.callPOImm16Pfx pp) := by cases pp <;> exact fun _ _ _ => rfl
theorem andImmPfx (pp : Idx) : Statement (.andImmPfx pp) := by cases pp <;> exact fun _ _ _ => rfl
theorem rst20Pfx (pp : Idx) : Statement (.rst20Pfx pp) := by cases pp <;> exact fun _ _ _ => rfl
theorem retPEPfx (pp : Idx) : Statement (.retPEPfx pp) := by cases pp <;> exact fun _ _ _ => rfl
theorem jpPEImm16Pfx (pp : Idx) : Statement (.jpPEImm16Pfx pp) := by cases pp <;> exact fun _ _ _ => rfl
theorem exDEHLPfx (pp : Idx) : Statement (.exDEHLPfx pp) := by cases pp <;> exact fun _ _ _ => rfl
theorem callPEImm16Pfx (pp : Idx) : Statement (.callPEImm16Pfx pp) := by cases pp <;> exact fun _ _ _ => rfl
theorem prefixEDPfx (pp : Idx) : Statement (.prefixEDPfx pp) := by cases pp <;> exact fun _ _ _ => rfl
theorem xorImmPfx (pp : Idx) : Statement (.xorImmPfx pp) := by cases pp <;> exact fun _ _ _ => rfl
theorem rst28Pfx (pp : Idx) : Statement (.rst28Pfx pp) := by cases pp <;> exact fun _ _ _ => rfl
theorem retPPfx (pp : Idx) : Statement (.retPPfx pp) := by cases pp <;> exact fun _ _ _ => rfl
theorem popAFPfx (pp : Idx) : Statement (.popAFPfx pp) := by cases pp <;> exact fun _ _ _ => rfl
theorem jpPImm16Pfx (pp : Idx) : Statement (.jpPImm16Pfx pp) := by cases pp <;> exact fun _ _ _ => rfl
theorem diPfx (pp : Idx) : Statement (.diPfx pp) := by cases pp <;> exact fun _ _ _ => rfl
theorem callPImm16Pfx (pp : Idx) : Statement (.callPImm16Pfx pp) := by cases pp <;> exact fun _ _ _ => rfl
theorem pushAFPfx (pp : Idx) : Statement (.pushAFPfx pp) := by cases pp <;> exact fun _ _ _ => rfl
theorem orImmPfx (pp : Idx) : Statement (.orImmPfx pp) := by cases pp <;> exact fun _ _ _ => rfl
theorem rst30Pfx (pp : Idx) : Statement (.rst30Pfx pp) := by cases pp <;> exact fun _ _ _ => rfl
theorem retMPfx (pp : Idx) : Statement (.retMPfx pp) := by cases pp <;> exact fun _ _ _ => rfl
theorem jpMImm16Pfx (pp : Idx) : Statement (.jpMImm16Pfx pp) := by cases pp <;> exact fun _ _ _ => rfl
theorem eiPfx (pp : Idx) : Statement (.eiPfx pp) := by cases pp <;> exact fun _ _ _ => rfl
theorem callMImm16Pfx (pp : Idx) : Statement (.callMImm16Pfx pp) := by cases pp <;> exact fun _ _ _ => rfl
theorem prefixFDChain (pp : Idx) : Statement (.prefixFDChain pp) := by cases pp <;> exact fun _ _ _ => rfl
theorem cpImmPfx (pp : Idx) : Statement (.cpImmPfx pp) := by cases pp <;> exact fun _ _ _ => rfl
theorem rst38Pfx (pp : Idx) : Statement (.rst38Pfx pp) := by cases pp <;> exact fun _ _ _ => rfl
theorem bit0AtIXd (z : BitVec 3) : Statement (.bit0AtIXd z) := fun _ _ _ => rfl
theorem bit1AtIXd (z : BitVec 3) : Statement (.bit1AtIXd z) := fun _ _ _ => rfl
theorem bit2AtIXd (z : BitVec 3) : Statement (.bit2AtIXd z) := fun _ _ _ => rfl
theorem bit3AtIXd (z : BitVec 3) : Statement (.bit3AtIXd z) := fun _ _ _ => rfl
theorem bit4AtIXd (z : BitVec 3) : Statement (.bit4AtIXd z) := fun _ _ _ => rfl
theorem bit5AtIXd (z : BitVec 3) : Statement (.bit5AtIXd z) := fun _ _ _ => rfl
theorem bit6AtIXd (z : BitVec 3) : Statement (.bit6AtIXd z) := fun _ _ _ => rfl
theorem bit7AtIXd (z : BitVec 3) : Statement (.bit7AtIXd z) := fun _ _ _ => rfl
theorem bit0AtIYd (z : BitVec 3) : Statement (.bit0AtIYd z) := fun _ _ _ => rfl
theorem bit1AtIYd (z : BitVec 3) : Statement (.bit1AtIYd z) := fun _ _ _ => rfl
theorem bit2AtIYd (z : BitVec 3) : Statement (.bit2AtIYd z) := fun _ _ _ => rfl
theorem bit3AtIYd (z : BitVec 3) : Statement (.bit3AtIYd z) := fun _ _ _ => rfl
theorem bit4AtIYd (z : BitVec 3) : Statement (.bit4AtIYd z) := fun _ _ _ => rfl
theorem bit5AtIYd (z : BitVec 3) : Statement (.bit5AtIYd z) := fun _ _ _ => rfl
theorem bit6AtIYd (z : BitVec 3) : Statement (.bit6AtIYd z) := fun _ _ _ => rfl
theorem bit7AtIYd (z : BitVec 3) : Statement (.bit7AtIYd z) := fun _ _ _ => rfl
theorem nop : Statement .nop := fun _ _ _ => rfl
theorem ldBCImm16 : Statement .ldBCImm16 := fun _ _ _ => rfl
theorem ldAtBCA : Statement .ldAtBCA := fun _ _ _ => rfl
theorem incBC : Statement .incBC := fun _ _ _ => rfl
theorem incB : Statement .incB := fun _ _ _ => rfl
theorem decB : Statement .decB := fun _ _ _ => rfl
theorem ldBImm : Statement .ldBImm := fun _ _ _ => rfl
theorem rlca : Statement .rlca := fun _ _ _ => rfl
theorem exAFAFAlt : Statement .exAFAFAlt := fun _ _ _ => rfl
theorem addHLBC : Statement .addHLBC := fun _ _ _ => rfl
theorem ldAAtBC : Statement .ldAAtBC := fun _ _ _ => rfl
theorem decBC : Statement .decBC := fun _ _ _ => rfl
theorem incC : Statement .incC := fun _ _ _ => rfl
theorem decC : Statement .decC := fun _ _ _ => rfl
theorem ldCImm : Statement .ldCImm := fun _ _ _ => rfl
theorem rrca : Statement .rrca := fun _ _ _ => rfl
theorem djnzRel : Statement .djnzRel := fun _ _ _ => rfl
theorem ldDEImm16 : Statement .ldDEImm16 := fun _ _ _ => rfl
theorem ldAtDEA : Statement .ldAtDEA := fun _ _ _ => rfl
theorem incDE : Statement .incDE := fun _ _ _ => rfl
theorem incD : Statement .incD := fun _ _ _ => rfl
theorem decD : Statement .decD := fun _ _ _ => rfl
theorem ldDImm : Statement .ldDImm := fun _ _ _ => rfl
theorem rla : Statement .rla := fun _ _ _ => rfl
theorem jrRel : Statement .jrRel := fun _ _ _ => rfl
theorem addHLDE : Statement .addHLDE := fun _ _ _ => rfl
theorem ldAAtDE : Statement .ldAAtDE := fun _ _ _ => rfl
theorem decDE : Statement .decDE := fun _ _ _ => rfl
theorem incE : Statement .incE := fun _ _ _ => rfl
theorem decE : Statement .decE := fun _ _ _ => rfl
theorem ldEImm : Statement .ldEImm := fun _ _ _ => rfl
theorem rra : Statement .rra := fun _ _ _ => rfl
theorem jrNZRel : Statement .jrNZRel := fun _ _ _ => rfl
theorem ldHLImm16 : Statement .ldHLImm16 := fun _ _ _ => rfl
theorem ldAtAbsHL : Statement .ldAtAbsHL := fun _ _ _ => rfl
theorem incHL : Statement .incHL := fun _ _ _ => rfl
theorem incH : Statement .incH := fun _ _ _ => rfl
theorem decH : Statement .decH := fun _ _ _ => rfl
theorem ldHImm : Statement .ldHImm := fun _ _ _ => rfl
theorem daa : Statement .daa := fun _ _ _ => rfl
theorem jrZRel : Statement .jrZRel := fun _ _ _ => rfl
theorem addHLHL : Statement .addHLHL := fun _ _ _ => rfl
theorem ldHLAtAbs : Statement .ldHLAtAbs := fun _ _ _ => rfl
theorem decHL : Statement .decHL := fun _ _ _ => rfl
theorem incL : Statement .incL := fun _ _ _ => rfl
theorem decL : Statement .decL := fun _ _ _ => rfl
theorem ldLImm : Statement .ldLImm := fun _ _ _ => rfl
theorem cpl : Statement .cpl := fun _ _ _ => rfl
theorem jrNCRel : Statement .jrNCRel := fun _ _ _ => rfl
theorem ldSPImm16 : Statement .ldSPImm16 := fun _ _ _ => rfl
theorem ldAtAbsA : Statement .ldAtAbsA := fun _ _ _ => rfl
theorem incSP : Statement .incSP := fun _ _ _ => rfl
theorem incAtHL : Statement .incAtHL := fun _ _ _ => rfl
theorem decAtHL : Statement .decAtHL := fun _ _ _ => rfl
theorem ldAtHLImm : Statement .ldAtHLImm := fun _ _ _ => rfl
theorem scf : Statement .scf := fun _ _ _ => rfl
theorem jrCRel : Statement .jrCRel := fun _ _ _ => rfl
theorem addHLSP : Statement .addHLSP := fun _ _ _ => rfl
theorem ldAAtAbs : Statement .ldAAtAbs := fun _ _ _ => rfl
theorem decSP : Statement .decSP := fun _ _ _ => rfl
theorem incA : Statement .incA := fun _ _ _ => rfl
theorem decA : Statement .decA := fun _ _ _ => rfl
theorem ldAImm : Statement .ldAImm := fun _ _ _ => rfl
theorem ccf : Statement .ccf := fun _ _ _ => rfl
theorem ldBB : Statement .ldBB := fun _ _ _ => rfl
theorem ldBC : Statement .ldBC := fun _ _ _ => rfl
theorem ldBD : Statement .ldBD := fun _ _ _ => rfl
theorem ldBE : Statement .ldBE := fun _ _ _ => rfl
theorem ldBH : Statement .ldBH := fun _ _ _ => rfl
theorem ldBL : Statement .ldBL := fun _ _ _ => rfl
theorem ldBAtHL : Statement .ldBAtHL := fun _ _ _ => rfl
theorem ldBA : Statement .ldBA := fun _ _ _ => rfl
theorem ldCB : Statement .ldCB := fun _ _ _ => rfl
theorem ldCC : Statement .ldCC := fun _ _ _ => rfl
theorem ldCD : Statement .ldCD := fun _ _ _ => rfl
theorem ldCE : Statement .ldCE := fun _ _ _ => rfl
theorem ldCH : Statement .ldCH := fun _ _ _ => rfl
theorem ldCL : Statement .ldCL := fun _ _ _ => rfl
theorem ldCAtHL : Statement .ldCAtHL := fun _ _ _ => rfl
theorem ldCA : Statement .ldCA := fun _ _ _ => rfl
theorem ldDB : Statement .ldDB := fun _ _ _ => rfl
theorem ldDC : Statement .ldDC := fun _ _ _ => rfl
theorem ldDD : Statement .ldDD := fun _ _ _ => rfl
theorem ldDE : Statement .ldDE := fun _ _ _ => rfl
theorem ldDH : Statement .ldDH := fun _ _ _ => rfl
theorem ldDL : Statement .ldDL := fun _ _ _ => rfl
theorem ldDAtHL : Statement .ldDAtHL := fun _ _ _ => rfl
theorem ldDA : Statement .ldDA := fun _ _ _ => rfl
theorem ldEB : Statement .ldEB := fun _ _ _ => rfl
theorem ldEC : Statement .ldEC := fun _ _ _ => rfl
theorem ldED : Statement .ldED := fun _ _ _ => rfl
theorem ldEE : Statement .ldEE := fun _ _ _ => rfl
theorem ldEH : Statement .ldEH := fun _ _ _ => rfl
theorem ldEL : Statement .ldEL := fun _ _ _ => rfl
theorem ldEAtHL : Statement .ldEAtHL := fun _ _ _ => rfl
theorem ldEA : Statement .ldEA := fun _ _ _ => rfl
theorem ldHB : Statement .ldHB := fun _ _ _ => rfl
theorem ldHC : Statement .ldHC := fun _ _ _ => rfl
theorem ldHD : Statement .ldHD := fun _ _ _ => rfl
theorem ldHE : Statement .ldHE := fun _ _ _ => rfl
theorem ldHH : Statement .ldHH := fun _ _ _ => rfl
theorem ldHL : Statement .ldHL := fun _ _ _ => rfl
theorem ldHAtHL : Statement .ldHAtHL := fun _ _ _ => rfl
theorem ldHA : Statement .ldHA := fun _ _ _ => rfl
theorem ldLB : Statement .ldLB := fun _ _ _ => rfl
theorem ldLC : Statement .ldLC := fun _ _ _ => rfl
theorem ldLD : Statement .ldLD := fun _ _ _ => rfl
theorem ldLE : Statement .ldLE := fun _ _ _ => rfl
theorem ldLH : Statement .ldLH := fun _ _ _ => rfl
theorem ldLL : Statement .ldLL := fun _ _ _ => rfl
theorem ldLAtHL : Statement .ldLAtHL := fun _ _ _ => rfl
theorem ldLA : Statement .ldLA := fun _ _ _ => rfl
theorem ldAtHLB : Statement .ldAtHLB := fun _ _ _ => rfl
theorem ldAtHLC : Statement .ldAtHLC := fun _ _ _ => rfl
theorem ldAtHLD : Statement .ldAtHLD := fun _ _ _ => rfl
theorem ldAtHLE : Statement .ldAtHLE := fun _ _ _ => rfl
theorem ldAtHLH : Statement .ldAtHLH := fun _ _ _ => rfl
theorem ldAtHLL : Statement .ldAtHLL := fun _ _ _ => rfl
theorem halt : Statement .halt := fun _ _ _ => rfl
theorem ldAtHLA : Statement .ldAtHLA := fun _ _ _ => rfl
theorem ldAB : Statement .ldAB := fun _ _ _ => rfl
theorem ldAC : Statement .ldAC := fun _ _ _ => rfl
theorem ldAD : Statement .ldAD := fun _ _ _ => rfl
theorem ldAE : Statement .ldAE := fun _ _ _ => rfl
theorem ldAH : Statement .ldAH := fun _ _ _ => rfl
theorem ldAL : Statement .ldAL := fun _ _ _ => rfl
theorem ldAAtHL : Statement .ldAAtHL := fun _ _ _ => rfl
theorem ldAA : Statement .ldAA := fun _ _ _ => rfl
theorem addAB : Statement .addAB := fun _ _ _ => rfl
theorem addAC : Statement .addAC := fun _ _ _ => rfl
theorem addAD : Statement .addAD := fun _ _ _ => rfl
theorem addAE : Statement .addAE := fun _ _ _ => rfl
theorem addAH : Statement .addAH := fun _ _ _ => rfl
theorem addAL : Statement .addAL := fun _ _ _ => rfl
theorem addAAtHL : Statement .addAAtHL := fun _ _ _ => rfl
theorem addAA : Statement .addAA := fun _ _ _ => rfl
theorem adcAB : Statement .adcAB := fun _ _ _ => rfl
theorem adcAC : Statement .adcAC := fun _ _ _ => rfl
theorem adcAD : Statement .adcAD := fun _ _ _ => rfl
theorem adcAE : Statement .adcAE := fun _ _ _ => rfl
theorem adcAH : Statement .adcAH := fun _ _ _ => rfl
theorem adcAL : Statement .adcAL := fun _ _ _ => rfl
theorem adcAAtHL : Statement .adcAAtHL := fun _ _ _ => rfl
theorem adcAA : Statement .adcAA := fun _ _ _ => rfl
theorem subB : Statement .subB := fun _ _ _ => rfl
theorem subC : Statement .subC := fun _ _ _ => rfl
theorem subD : Statement .subD := fun _ _ _ => rfl
theorem subE : Statement .subE := fun _ _ _ => rfl
theorem subH : Statement .subH := fun _ _ _ => rfl
theorem subL : Statement .subL := fun _ _ _ => rfl
theorem subAtHL : Statement .subAtHL := fun _ _ _ => rfl
theorem subA : Statement .subA := fun _ _ _ => rfl
theorem sbcAB : Statement .sbcAB := fun _ _ _ => rfl
theorem sbcAC : Statement .sbcAC := fun _ _ _ => rfl
theorem sbcAD : Statement .sbcAD := fun _ _ _ => rfl
theorem sbcAE : Statement .sbcAE := fun _ _ _ => rfl
theorem sbcAH : Statement .sbcAH := fun _ _ _ => rfl
theorem sbcAL : Statement .sbcAL := fun _ _ _ => rfl
theorem sbcAAtHL : Statement .sbcAAtHL := fun _ _ _ => rfl
theorem sbcAA : Statement .sbcAA := fun _ _ _ => rfl
theorem andB : Statement .andB := fun _ _ _ => rfl
theorem andC : Statement .andC := fun _ _ _ => rfl
theorem andD : Statement .andD := fun _ _ _ => rfl
theorem andE : Statement .andE := fun _ _ _ => rfl
theorem andH : Statement .andH := fun _ _ _ => rfl
theorem andL : Statement .andL := fun _ _ _ => rfl
theorem andAtHL : Statement .andAtHL := fun _ _ _ => rfl
theorem andA : Statement .andA := fun _ _ _ => rfl
theorem xorB : Statement .xorB := fun _ _ _ => rfl
theorem xorC : Statement .xorC := fun _ _ _ => rfl
theorem xorD : Statement .xorD := fun _ _ _ => rfl
theorem xorE : Statement .xorE := fun _ _ _ => rfl
theorem xorH : Statement .xorH := fun _ _ _ => rfl
theorem xorL : Statement .xorL := fun _ _ _ => rfl
theorem xorAtHL : Statement .xorAtHL := fun _ _ _ => rfl
theorem xorA : Statement .xorA := fun _ _ _ => rfl
theorem orB : Statement .orB := fun _ _ _ => rfl
theorem orC : Statement .orC := fun _ _ _ => rfl
theorem orD : Statement .orD := fun _ _ _ => rfl
theorem orE : Statement .orE := fun _ _ _ => rfl
theorem orH : Statement .orH := fun _ _ _ => rfl
theorem orL : Statement .orL := fun _ _ _ => rfl
theorem orAtHL : Statement .orAtHL := fun _ _ _ => rfl
theorem orA : Statement .orA := fun _ _ _ => rfl
theorem cpB : Statement .cpB := fun _ _ _ => rfl
theorem cpC : Statement .cpC := fun _ _ _ => rfl
theorem cpD : Statement .cpD := fun _ _ _ => rfl
theorem cpE : Statement .cpE := fun _ _ _ => rfl
theorem cpH : Statement .cpH := fun _ _ _ => rfl
theorem cpL : Statement .cpL := fun _ _ _ => rfl
theorem cpAtHL : Statement .cpAtHL := fun _ _ _ => rfl
theorem cpA : Statement .cpA := fun _ _ _ => rfl
theorem retNZ : Statement .retNZ := fun _ _ _ => rfl
theorem popBC : Statement .popBC := fun _ _ _ => rfl
theorem jpNZImm16 : Statement .jpNZImm16 := fun _ _ _ => rfl
theorem jpImm16 : Statement .jpImm16 := fun _ _ _ => rfl
theorem callNZImm16 : Statement .callNZImm16 := fun _ _ _ => rfl
theorem pushBC : Statement .pushBC := fun _ _ _ => rfl
theorem addAImm : Statement .addAImm := fun _ _ _ => rfl
theorem rst00 : Statement .rst00 := fun _ _ _ => rfl
theorem retZ : Statement .retZ := fun _ _ _ => rfl
theorem ret : Statement .ret := fun _ _ _ => rfl
theorem jpZImm16 : Statement .jpZImm16 := fun _ _ _ => rfl
theorem prefixCB : Statement .prefixCB := fun _ _ _ => rfl
theorem callZImm16 : Statement .callZImm16 := fun _ _ _ => rfl
theorem callImm16 : Statement .callImm16 := fun _ _ _ => rfl
theorem adcAImm : Statement .adcAImm := fun _ _ _ => rfl
theorem rst08 : Statement .rst08 := fun _ _ _ => rfl
theorem retNC : Statement .retNC := fun _ _ _ => rfl
theorem popDE : Statement .popDE := fun _ _ _ => rfl
theorem jpNCImm16 : Statement .jpNCImm16 := fun _ _ _ => rfl
theorem outAtImmA : Statement .outAtImmA := fun _ _ _ => rfl
theorem callNCImm16 : Statement .callNCImm16 := fun _ _ _ => rfl
theorem pushDE : Statement .pushDE := fun _ _ _ => rfl
theorem subImm : Statement .subImm := fun _ _ _ => rfl
theorem rst10 : Statement .rst10 := fun _ _ _ => rfl
theorem retC : Statement .retC := fun _ _ _ => rfl
theorem exx : Statement .exx := fun _ _ _ => rfl
theorem jpCImm16 : Statement .jpCImm16 := fun _ _ _ => rfl
theorem inAAtImm : Statement .inAAtImm := fun _ _ _ => rfl
theorem callCImm16 : Statement .callCImm16 := fun _ _ _ => rfl
theorem prefixDD : Statement .prefixDD := fun _ _ _ => rfl
theorem sbcAImm : Statement .sbcAImm := fun _ _ _ => rfl
theorem rst18 : Statement .rst18 := fun _ _ _ => rfl
theorem retPO : Statement .retPO := fun _ _ _ => rfl
theorem popHL : Statement .popHL := fun _ _ _ => rfl
theorem jpPOImm16 : Statement .jpPOImm16 := fun _ _ _ => rfl
theorem exAtSPHL : Statement .exAtSPHL := fun _ _ _ => rfl
theorem callPOImm16 : Statement .callPOImm16 := fun _ _ _ => rfl
theorem pushHL : Statement .pushHL := fun _ _ _ => rfl
theorem andImm : Statement .andImm := fun _ _ _ => rfl
theorem rst20 : Statement .rst20 := fun _ _ _ => rfl
theorem retPE : Statement .retPE := fun _ _ _ => rfl
theorem jpAtHL : Statement .jpAtHL := fun _ _ _ => rfl
theorem jpPEImm16 : Statement .jpPEImm16 := fun _ _ _ => rfl
theorem exDEHL : Statement .exDEHL := fun _ _ _ => rfl
theorem callPEImm16 : Statement .callPEImm16 := fun _ _ _ => rfl
theorem prefixED : Statement .prefixED := fun _ _ _ => rfl
theorem xorImm : Statement .xorImm := fun _ _ _ => rfl
theorem rst28 : Statement .rst28 := fun _ _ _ => rfl
theorem retP : Statement .retP := fun _ _ _ => rfl
theorem popAF : Statement .popAF := fun _ _ _ => rfl
theorem jpPImm16 : Statement .jpPImm16 := fun _ _ _ => rfl
theorem di : Statement .di := fun _ _ _ => rfl
theorem callPImm16 : Statement .callPImm16 := fun _ _ _ => rfl
theorem pushAF : Statement .pushAF := fun _ _ _ => rfl
theorem orImm : Statement .orImm := fun _ _ _ => rfl
theorem rst30 : Statement .rst30 := fun _ _ _ => rfl
theorem retM : Statement .retM := fun _ _ _ => rfl
theorem ldSPHL : Statement .ldSPHL := fun _ _ _ => rfl
theorem jpMImm16 : Statement .jpMImm16 := fun _ _ _ => rfl
theorem ei : Statement .ei := fun _ _ _ => rfl
theorem callMImm16 : Statement .callMImm16 := fun _ _ _ => rfl
theorem prefixFD : Statement .prefixFD := fun _ _ _ => rfl
theorem cpImm : Statement .cpImm := fun _ _ _ => rfl
theorem rst38 : Statement .rst38 := fun _ _ _ => rfl
theorem rlcB : Statement .rlcB := fun _ _ _ => rfl
theorem rlcC : Statement .rlcC := fun _ _ _ => rfl
theorem rlcD : Statement .rlcD := fun _ _ _ => rfl
theorem rlcE : Statement .rlcE := fun _ _ _ => rfl
theorem rlcH : Statement .rlcH := fun _ _ _ => rfl
theorem rlcL : Statement .rlcL := fun _ _ _ => rfl
theorem rlcAtHL : Statement .rlcAtHL := fun _ _ _ => rfl
theorem rlcA : Statement .rlcA := fun _ _ _ => rfl
theorem rrcB : Statement .rrcB := fun _ _ _ => rfl
theorem rrcC : Statement .rrcC := fun _ _ _ => rfl
theorem rrcD : Statement .rrcD := fun _ _ _ => rfl
theorem rrcE : Statement .rrcE := fun _ _ _ => rfl
theorem rrcH : Statement .rrcH := fun _ _ _ => rfl
theorem rrcL : Statement .rrcL := fun _ _ _ => rfl
theorem rrcAtHL : Statement .rrcAtHL := fun _ _ _ => rfl
theorem rrcA : Statement .rrcA := fun _ _ _ => rfl
theorem rlB : Statement .rlB := fun _ _ _ => rfl
theorem rlC : Statement .rlC := fun _ _ _ => rfl
theorem rlD : Statement .rlD := fun _ _ _ => rfl
theorem rlE : Statement .rlE := fun _ _ _ => rfl
theorem rlH : Statement .rlH := fun _ _ _ => rfl
theorem rlL : Statement .rlL := fun _ _ _ => rfl
theorem rlAtHL : Statement .rlAtHL := fun _ _ _ => rfl
theorem rlA : Statement .rlA := fun _ _ _ => rfl
theorem rrB : Statement .rrB := fun _ _ _ => rfl
theorem rrC : Statement .rrC := fun _ _ _ => rfl
theorem rrD : Statement .rrD := fun _ _ _ => rfl
theorem rrE : Statement .rrE := fun _ _ _ => rfl
theorem rrH : Statement .rrH := fun _ _ _ => rfl
theorem rrL : Statement .rrL := fun _ _ _ => rfl
theorem rrAtHL : Statement .rrAtHL := fun _ _ _ => rfl
theorem rrA : Statement .rrA := fun _ _ _ => rfl
theorem slaB : Statement .slaB := fun _ _ _ => rfl
theorem slaC : Statement .slaC := fun _ _ _ => rfl
theorem slaD : Statement .slaD := fun _ _ _ => rfl
theorem slaE : Statement .slaE := fun _ _ _ => rfl
theorem slaH : Statement .slaH := fun _ _ _ => rfl
theorem slaL : Statement .slaL := fun _ _ _ => rfl
theorem slaAtHL : Statement .slaAtHL := fun _ _ _ => rfl
theorem slaA : Statement .slaA := fun _ _ _ => rfl
theorem sraB : Statement .sraB := fun _ _ _ => rfl
theorem sraC : Statement .sraC := fun _ _ _ => rfl
theorem sraD : Statement .sraD := fun _ _ _ => rfl
theorem sraE : Statement .sraE := fun _ _ _ => rfl
theorem sraH : Statement .sraH := fun _ _ _ => rfl
theorem sraL : Statement .sraL := fun _ _ _ => rfl
theorem sraAtHL : Statement .sraAtHL := fun _ _ _ => rfl
theorem sraA : Statement .sraA := fun _ _ _ => rfl
theorem sllB : Statement .sllB := fun _ _ _ => rfl
theorem sllC : Statement .sllC := fun _ _ _ => rfl
theorem sllD : Statement .sllD := fun _ _ _ => rfl
theorem sllE : Statement .sllE := fun _ _ _ => rfl
theorem sllH : Statement .sllH := fun _ _ _ => rfl
theorem sllL : Statement .sllL := fun _ _ _ => rfl
theorem sllAtHL : Statement .sllAtHL := fun _ _ _ => rfl
theorem sllA : Statement .sllA := fun _ _ _ => rfl
theorem srlB : Statement .srlB := fun _ _ _ => rfl
theorem srlC : Statement .srlC := fun _ _ _ => rfl
theorem srlD : Statement .srlD := fun _ _ _ => rfl
theorem srlE : Statement .srlE := fun _ _ _ => rfl
theorem srlH : Statement .srlH := fun _ _ _ => rfl
theorem srlL : Statement .srlL := fun _ _ _ => rfl
theorem srlAtHL : Statement .srlAtHL := fun _ _ _ => rfl
theorem srlA : Statement .srlA := fun _ _ _ => rfl
theorem bit0B : Statement .bit0B := fun _ _ _ => rfl
theorem bit0C : Statement .bit0C := fun _ _ _ => rfl
theorem bit0D : Statement .bit0D := fun _ _ _ => rfl
theorem bit0E : Statement .bit0E := fun _ _ _ => rfl
theorem bit0H : Statement .bit0H := fun _ _ _ => rfl
theorem bit0L : Statement .bit0L := fun _ _ _ => rfl
theorem bit0AtHL : Statement .bit0AtHL := fun _ _ _ => rfl
theorem bit0A : Statement .bit0A := fun _ _ _ => rfl
theorem bit1B : Statement .bit1B := fun _ _ _ => rfl
theorem bit1C : Statement .bit1C := fun _ _ _ => rfl
theorem bit1D : Statement .bit1D := fun _ _ _ => rfl
theorem bit1E : Statement .bit1E := fun _ _ _ => rfl
theorem bit1H : Statement .bit1H := fun _ _ _ => rfl
theorem bit1L : Statement .bit1L := fun _ _ _ => rfl
theorem bit1AtHL : Statement .bit1AtHL := fun _ _ _ => rfl
theorem bit1A : Statement .bit1A := fun _ _ _ => rfl
theorem bit2B : Statement .bit2B := fun _ _ _ => rfl
theorem bit2C : Statement .bit2C := fun _ _ _ => rfl
theorem bit2D : Statement .bit2D := fun _ _ _ => rfl
theorem bit2E : Statement .bit2E := fun _ _ _ => rfl
theorem bit2H : Statement .bit2H := fun _ _ _ => rfl
theorem bit2L : Statement .bit2L := fun _ _ _ => rfl
theorem bit2AtHL : Statement .bit2AtHL := fun _ _ _ => rfl
theorem bit2A : Statement .bit2A := fun _ _ _ => rfl
theorem bit3B : Statement .bit3B := fun _ _ _ => rfl
theorem bit3C : Statement .bit3C := fun _ _ _ => rfl
theorem bit3D : Statement .bit3D := fun _ _ _ => rfl
theorem bit3E : Statement .bit3E := fun _ _ _ => rfl
theorem bit3H : Statement .bit3H := fun _ _ _ => rfl
theorem bit3L : Statement .bit3L := fun _ _ _ => rfl
theorem bit3AtHL : Statement .bit3AtHL := fun _ _ _ => rfl
theorem bit3A : Statement .bit3A := fun _ _ _ => rfl
theorem bit4B : Statement .bit4B := fun _ _ _ => rfl
theorem bit4C : Statement .bit4C := fun _ _ _ => rfl
theorem bit4D : Statement .bit4D := fun _ _ _ => rfl
theorem bit4E : Statement .bit4E := fun _ _ _ => rfl
theorem bit4H : Statement .bit4H := fun _ _ _ => rfl
theorem bit4L : Statement .bit4L := fun _ _ _ => rfl
theorem bit4AtHL : Statement .bit4AtHL := fun _ _ _ => rfl
theorem bit4A : Statement .bit4A := fun _ _ _ => rfl
theorem bit5B : Statement .bit5B := fun _ _ _ => rfl
theorem bit5C : Statement .bit5C := fun _ _ _ => rfl
theorem bit5D : Statement .bit5D := fun _ _ _ => rfl
theorem bit5E : Statement .bit5E := fun _ _ _ => rfl
theorem bit5H : Statement .bit5H := fun _ _ _ => rfl
theorem bit5L : Statement .bit5L := fun _ _ _ => rfl
theorem bit5AtHL : Statement .bit5AtHL := fun _ _ _ => rfl
theorem bit5A : Statement .bit5A := fun _ _ _ => rfl
theorem bit6B : Statement .bit6B := fun _ _ _ => rfl
theorem bit6C : Statement .bit6C := fun _ _ _ => rfl
theorem bit6D : Statement .bit6D := fun _ _ _ => rfl
theorem bit6E : Statement .bit6E := fun _ _ _ => rfl
theorem bit6H : Statement .bit6H := fun _ _ _ => rfl
theorem bit6L : Statement .bit6L := fun _ _ _ => rfl
theorem bit6AtHL : Statement .bit6AtHL := fun _ _ _ => rfl
theorem bit6A : Statement .bit6A := fun _ _ _ => rfl
theorem bit7B : Statement .bit7B := fun _ _ _ => rfl
theorem bit7C : Statement .bit7C := fun _ _ _ => rfl
theorem bit7D : Statement .bit7D := fun _ _ _ => rfl
theorem bit7E : Statement .bit7E := fun _ _ _ => rfl
theorem bit7H : Statement .bit7H := fun _ _ _ => rfl
theorem bit7L : Statement .bit7L := fun _ _ _ => rfl
theorem bit7AtHL : Statement .bit7AtHL := fun _ _ _ => rfl
theorem bit7A : Statement .bit7A := fun _ _ _ => rfl
theorem res0B : Statement .res0B := fun _ _ _ => rfl
theorem res0C : Statement .res0C := fun _ _ _ => rfl
theorem res0D : Statement .res0D := fun _ _ _ => rfl
theorem res0E : Statement .res0E := fun _ _ _ => rfl
theorem res0H : Statement .res0H := fun _ _ _ => rfl
theorem res0L : Statement .res0L := fun _ _ _ => rfl
theorem res0AtHL : Statement .res0AtHL := fun _ _ _ => rfl
theorem res0A : Statement .res0A := fun _ _ _ => rfl
theorem res1B : Statement .res1B := fun _ _ _ => rfl
theorem res1C : Statement .res1C := fun _ _ _ => rfl
theorem res1D : Statement .res1D := fun _ _ _ => rfl
theorem res1E : Statement .res1E := fun _ _ _ => rfl
theorem res1H : Statement .res1H := fun _ _ _ => rfl
theorem res1L : Statement .res1L := fun _ _ _ => rfl
theorem res1AtHL : Statement .res1AtHL := fun _ _ _ => rfl
theorem res1A : Statement .res1A := fun _ _ _ => rfl
theorem res2B : Statement .res2B := fun _ _ _ => rfl
theorem res2C : Statement .res2C := fun _ _ _ => rfl
theorem res2D : Statement .res2D := fun _ _ _ => rfl
theorem res2E : Statement .res2E := fun _ _ _ => rfl
theorem res2H : Statement .res2H := fun _ _ _ => rfl
theorem res2L : Statement .res2L := fun _ _ _ => rfl
theorem res2AtHL : Statement .res2AtHL := fun _ _ _ => rfl
theorem res2A : Statement .res2A := fun _ _ _ => rfl
theorem res3B : Statement .res3B := fun _ _ _ => rfl
theorem res3C : Statement .res3C := fun _ _ _ => rfl
theorem res3D : Statement .res3D := fun _ _ _ => rfl
theorem res3E : Statement .res3E := fun _ _ _ => rfl
theorem res3H : Statement .res3H := fun _ _ _ => rfl
theorem res3L : Statement .res3L := fun _ _ _ => rfl
theorem res3AtHL : Statement .res3AtHL := fun _ _ _ => rfl
theorem res3A : Statement .res3A := fun _ _ _ => rfl
theorem res4B : Statement .res4B := fun _ _ _ => rfl
theorem res4C : Statement .res4C := fun _ _ _ => rfl
theorem res4D : Statement .res4D := fun _ _ _ => rfl
theorem res4E : Statement .res4E := fun _ _ _ => rfl
theorem res4H : Statement .res4H := fun _ _ _ => rfl
theorem res4L : Statement .res4L := fun _ _ _ => rfl
theorem res4AtHL : Statement .res4AtHL := fun _ _ _ => rfl
theorem res4A : Statement .res4A := fun _ _ _ => rfl
theorem res5B : Statement .res5B := fun _ _ _ => rfl
theorem res5C : Statement .res5C := fun _ _ _ => rfl
theorem res5D : Statement .res5D := fun _ _ _ => rfl
theorem res5E : Statement .res5E := fun _ _ _ => rfl
theorem res5H : Statement .res5H := fun _ _ _ => rfl
theorem res5L : Statement .res5L := fun _ _ _ => rfl
theorem res5AtHL : Statement .res5AtHL := fun _ _ _ => rfl
theorem res5A : Statement .res5A := fun _ _ _ => rfl
theorem res6B : Statement .res6B := fun _ _ _ => rfl
theorem res6C : Statement .res6C := fun _ _ _ => rfl
theorem res6D : Statement .res6D := fun _ _ _ => rfl
theorem res6E : Statement .res6E := fun _ _ _ => rfl
theorem res6H : Statement .res6H := fun _ _ _ => rfl
theorem res6L : Statement .res6L := fun _ _ _ => rfl
theorem res6AtHL : Statement .res6AtHL := fun _ _ _ => rfl
theorem res6A : Statement .res6A := fun _ _ _ => rfl
theorem res7B : Statement .res7B := fun _ _ _ => rfl
theorem res7C : Statement .res7C := fun _ _ _ => rfl
theorem res7D : Statement .res7D := fun _ _ _ => rfl
theorem res7E : Statement .res7E := fun _ _ _ => rfl
theorem res7H : Statement .res7H := fun _ _ _ => rfl
theorem res7L : Statement .res7L := fun _ _ _ => rfl
theorem res7AtHL : Statement .res7AtHL := fun _ _ _ => rfl
theorem res7A : Statement .res7A := fun _ _ _ => rfl
theorem set0B : Statement .set0B := fun _ _ _ => rfl
theorem set0C : Statement .set0C := fun _ _ _ => rfl
theorem set0D : Statement .set0D := fun _ _ _ => rfl
theorem set0E : Statement .set0E := fun _ _ _ => rfl
theorem set0H : Statement .set0H := fun _ _ _ => rfl
theorem set0L : Statement .set0L := fun _ _ _ => rfl
theorem set0AtHL : Statement .set0AtHL := fun _ _ _ => rfl
theorem set0A : Statement .set0A := fun _ _ _ => rfl
theorem set1B : Statement .set1B := fun _ _ _ => rfl
theorem set1C : Statement .set1C := fun _ _ _ => rfl
theorem set1D : Statement .set1D := fun _ _ _ => rfl
theorem set1E : Statement .set1E := fun _ _ _ => rfl
theorem set1H : Statement .set1H := fun _ _ _ => rfl
theorem set1L : Statement .set1L := fun _ _ _ => rfl
theorem set1AtHL : Statement .set1AtHL := fun _ _ _ => rfl
theorem set1A : Statement .set1A := fun _ _ _ => rfl
theorem set2B : Statement .set2B := fun _ _ _ => rfl
theorem set2C : Statement .set2C := fun _ _ _ => rfl
theorem set2D : Statement .set2D := fun _ _ _ => rfl
theorem set2E : Statement .set2E := fun _ _ _ => rfl
theorem set2H : Statement .set2H := fun _ _ _ => rfl
theorem set2L : Statement .set2L := fun _ _ _ => rfl
theorem set2AtHL : Statement .set2AtHL := fun _ _ _ => rfl
theorem set2A : Statement .set2A := fun _ _ _ => rfl
theorem set3B : Statement .set3B := fun _ _ _ => rfl
theorem set3C : Statement .set3C := fun _ _ _ => rfl
theorem set3D : Statement .set3D := fun _ _ _ => rfl
theorem set3E : Statement .set3E := fun _ _ _ => rfl
theorem set3H : Statement .set3H := fun _ _ _ => rfl
theorem set3L : Statement .set3L := fun _ _ _ => rfl
theorem set3AtHL : Statement .set3AtHL := fun _ _ _ => rfl
theorem set3A : Statement .set3A := fun _ _ _ => rfl
theorem set4B : Statement .set4B := fun _ _ _ => rfl
theorem set4C : Statement .set4C := fun _ _ _ => rfl
theorem set4D : Statement .set4D := fun _ _ _ => rfl
theorem set4E : Statement .set4E := fun _ _ _ => rfl
theorem set4H : Statement .set4H := fun _ _ _ => rfl
theorem set4L : Statement .set4L := fun _ _ _ => rfl
theorem set4AtHL : Statement .set4AtHL := fun _ _ _ => rfl
theorem set4A : Statement .set4A := fun _ _ _ => rfl
theorem set5B : Statement .set5B := fun _ _ _ => rfl
theorem set5C : Statement .set5C := fun _ _ _ => rfl
theorem set5D : Statement .set5D := fun _ _ _ => rfl
theorem set5E : Statement .set5E := fun _ _ _ => rfl
theorem set5H : Statement .set5H := fun _ _ _ => rfl
theorem set5L : Statement .set5L := fun _ _ _ => rfl
theorem set5AtHL : Statement .set5AtHL := fun _ _ _ => rfl
theorem set5A : Statement .set5A := fun _ _ _ => rfl
theorem set6B : Statement .set6B := fun _ _ _ => rfl
theorem set6C : Statement .set6C := fun _ _ _ => rfl
theorem set6D : Statement .set6D := fun _ _ _ => rfl
theorem set6E : Statement .set6E := fun _ _ _ => rfl
theorem set6H : Statement .set6H := fun _ _ _ => rfl
theorem set6L : Statement .set6L := fun _ _ _ => rfl
theorem set6AtHL : Statement .set6AtHL := fun _ _ _ => rfl
theorem set6A : Statement .set6A := fun _ _ _ => rfl
theorem set7B : Statement .set7B := fun _ _ _ => rfl
theorem set7C : Statement .set7C := fun _ _ _ => rfl
theorem set7D : Statement .set7D := fun _ _ _ => rfl
theorem set7E : Statement .set7E := fun _ _ _ => rfl
theorem set7H : Statement .set7H := fun _ _ _ => rfl
theorem set7L : Statement .set7L := fun _ _ _ => rfl
theorem set7AtHL : Statement .set7AtHL := fun _ _ _ => rfl
theorem set7A : Statement .set7A := fun _ _ _ => rfl
theorem inBAtC : Statement .inBAtC := fun _ _ _ => rfl
theorem outAtCB : Statement .outAtCB := fun _ _ _ => rfl
theorem sbcHLBC : Statement .sbcHLBC := fun _ _ _ => rfl
theorem ldAtAbsBC : Statement .ldAtAbsBC := fun _ _ _ => rfl
theorem ldIA : Statement .ldIA := fun _ _ _ => rfl
theorem inCAtC : Statement .inCAtC := fun _ _ _ => rfl
theorem outAtCC : Statement .outAtCC := fun _ _ _ => rfl
theorem adcHLBC : Statement .adcHLBC := fun _ _ _ => rfl
theorem ldBCAtAbs : Statement .ldBCAtAbs := fun _ _ _ => rfl
theorem reti : Statement .reti := fun _ _ _ => rfl
theorem ldRA : Statement .ldRA := fun _ _ _ => rfl
theorem inDAtC : Statement .inDAtC := fun _ _ _ => rfl
theorem outAtCD : Statement .outAtCD := fun _ _ _ => rfl
theorem sbcHLDE : Statement .sbcHLDE := fun _ _ _ => rfl
theorem ldAtAbsDE : Statement .ldAtAbsDE := fun _ _ _ => rfl
theorem ldAI : Statement .ldAI := fun _ _ _ => rfl
theorem inEAtC : Statement .inEAtC := fun _ _ _ => rfl
theorem outAtCE : Statement .outAtCE := fun _ _ _ => rfl
theorem adcHLDE : Statement .adcHLDE := fun _ _ _ => rfl
theorem ldDEAtAbs : Statement .ldDEAtAbs := fun _ _ _ => rfl
theorem ldAR : Statement .ldAR := fun _ _ _ => rfl
theorem inHAtC : Statement .inHAtC := fun _ _ _ => rfl
theorem outAtCH : Statement .outAtCH := fun _ _ _ => rfl
theorem sbcHLHL : Statement .sbcHLHL := fun _ _ _ => rfl
theorem ldAtAbsHLEd : Statement .ldAtAbsHLEd := fun _ _ _ => rfl
theorem rrd : Statement .rrd := fun _ _ _ => rfl
theorem inLAtC : Statement .inLAtC := fun _ _ _ => rfl
theorem outAtCL : Statement .outAtCL := fun _ _ _ => rfl
theorem adcHLHL : Statement .adcHLHL := fun _ _ _ => rfl
theorem ldHLAtAbsEd : Statement .ldHLAtAbsEd := fun _ _ _ => rfl
theorem rld : Statement .rld := fun _ _ _ => rfl
theorem inAtC : Statement .inAtC := fun _ _ _ => rfl
theorem outAtC0 : Statement .outAtC0 := fun _ _ _ => rfl
theorem sbcHLSP : Statement .sbcHLSP := fun _ _ _ => rfl
theorem ldAtAbsSP : Statement .ldAtAbsSP := fun _ _ _ => rfl
theorem inAAtC : Statement .inAAtC := fun _ _ _ => rfl
theorem outAtCA : Statement .outAtCA := fun _ _ _ => rfl
theorem adcHLSP : Statement .adcHLSP := fun _ _ _ => rfl
theorem ldSPAtAbs : Statement .ldSPAtAbs := fun _ _ _ => rfl
theorem ldi : Statement .ldi := fun _ _ _ => rfl
theorem cpi : Statement .cpi := fun _ _ _ => rfl
theorem ini : Statement .ini := fun _ _ _ => rfl
theorem outi : Statement .outi := fun _ _ _ => rfl
theorem ldd : Statement .ldd := fun _ _ _ => rfl
theorem cpd : Statement .cpd := fun _ _ _ => rfl
theorem ind : Statement .ind := fun _ _ _ => rfl
theorem outd : Statement .outd := fun _ _ _ => rfl
theorem ldir : Statement .ldir := fun _ _ _ => rfl
theorem cpir : Statement .cpir := fun _ _ _ => rfl
theorem inir : Statement .inir := fun _ _ _ => rfl
theorem otir : Statement .otir := fun _ _ _ => rfl
theorem lddr : Statement .lddr := fun _ _ _ => rfl
theorem cpdr : Statement .cpdr := fun _ _ _ => rfl
theorem indr : Statement .indr := fun _ _ _ => rfl
theorem otdr : Statement .otdr := fun _ _ _ => rfl
theorem addIXBC : Statement .addIXBC := fun _ _ _ => rfl
theorem addIXDE : Statement .addIXDE := fun _ _ _ => rfl
theorem ldIXImm16 : Statement .ldIXImm16 := fun _ _ _ => rfl
theorem ldAtAbsIX : Statement .ldAtAbsIX := fun _ _ _ => rfl
theorem incIX : Statement .incIX := fun _ _ _ => rfl
theorem incIXH : Statement .incIXH := fun _ _ _ => rfl
theorem decIXH : Statement .decIXH := fun _ _ _ => rfl
theorem ldIXHImm : Statement .ldIXHImm := fun _ _ _ => rfl
theorem addIXIX : Statement .addIXIX := fun _ _ _ => rfl
theorem ldIXAtAbs : Statement .ldIXAtAbs := fun _ _ _ => rfl
theorem decIX : Statement .decIX := fun _ _ _ => rfl
theorem incIXL : Statement .incIXL := fun _ _ _ => rfl
theorem decIXL : Statement .decIXL := fun _ _ _ => rfl
theorem ldIXLImm : Statement .ldIXLImm := fun _ _ _ => rfl
theorem incAtIXd : Statement .incAtIXd := fun _ _ _ => rfl
theorem decAtIXd : Statement .decAtIXd := fun _ _ _ => rfl
theorem ldAtIXdImm : Statement .ldAtIXdImm := fun _ _ _ => rfl
theorem addIXSP : Statement .addIXSP := fun _ _ _ => rfl
theorem ldBIXH : Statement .ldBIXH := fun _ _ _ => rfl
theorem ldBIXL : Statement .ldBIXL := fun _ _ _ => rfl
theorem ldBAtIXd : Statement .ldBAtIXd := fun _ _ _ => rfl
theorem ldCIXH : Statement .ldCIXH := fun _ _ _ => rfl
theorem ldCIXL : Statement .ldCIXL := fun _ _ _ => rfl
theorem ldCAtIXd : Statement .ldCAtIXd := fun _ _ _ => rfl
theorem ldDIXH : Statement .ldDIXH := fun _ _ _ => rfl
theorem ldDIXL : Statement .ldDIXL := fun _ _ _ => rfl
theorem ldDAtIXd : Statement .ldDAtIXd := fun _ _ _ => rfl
theorem ldEIXH : Statement .ldEIXH := fun _ _ _ => rfl
theorem ldEIXL : Statement .ldEIXL := fun _ _ _ => rfl
theorem ldEAtIXd : Statement .ldEAtIXd := fun _ _ _ => rfl
theorem ldIXHB : Statement .ldIXHB := fun _ _ _ => rfl
theorem ldIXHC : Statement .ldIXHC := fun _ _ _ => rfl
theorem ldIXHD : Statement .ldIXHD := fun _ _ _ => rfl
theorem ldIXHE : Statement .ldIXHE := fun _ _ _ => rfl
theorem ldIXHIXH : Statement .ldIXHIXH := fun _ _ _ => rfl
theorem ldIXHIXL : Statement .ldIXHIXL := fun _ _ _ => rfl
theorem ldHAtIXd : Statement .ldHAtIXd := fun _ _ _ => rfl
theorem ldIXHA : Statement .ldIXHA := fun _ _ _ => rfl
theorem ldIXLB : Statement .ldIXLB := fun _ _ _ => rfl
theorem ldIXLC : Statement .ldIXLC := fun _ _ _ => rfl
theorem ldIXLD : Statement .ldIXLD := fun _ _ _ => rfl
theorem ldIXLE : Statement .ldIXLE := fun _ _ _ => rfl
theorem ldIXLIXH : Statement .ldIXLIXH := fun _ _ _ => rfl
theorem ldIXLIXL : Statement .ldIXLIXL := fun _ _ _ => rfl
theorem ldLAtIXd : Statement .ldLAtIXd := fun _ _ _ => rfl
theorem ldIXLA : Statement .ldIXLA := fun _ _ _ => rfl
theorem ldAtIXdB : Statement .ldAtIXdB := fun _ _ _ => rfl
theorem ldAtIXdC : Statement .ldAtIXdC := fun _ _ _ => rfl
theorem ldAtIXdD : Statement .ldAtIXdD := fun _ _ _ => rfl
theorem ldAtIXdE : Statement .ldAtIXdE := fun _ _ _ => rfl
theorem ldAtIXdH : Statement .ldAtIXdH := fun _ _ _ => rfl
theorem ldAtIXdL : Statement .ldAtIXdL := fun _ _ _ => rfl
theorem ldAtIXdA : Statement .ldAtIXdA := fun _ _ _ => rfl
theorem ldAIXH : Statement .ldAIXH := fun _ _ _ => rfl
theorem ldAIXL : Statement .ldAIXL := fun _ _ _ => rfl
theorem ldAAtIXd : Statement .ldAAtIXd := fun _ _ _ => rfl
theorem addAIXH : Statement .addAIXH := fun _ _ _ => rfl
theorem addAIXL : Statement .addAIXL := fun _ _ _ => rfl
theorem addAAtIXd : Statement .addAAtIXd := fun _ _ _ => rfl
theorem adcAIXH : Statement .adcAIXH := fun _ _ _ => rfl
theorem adcAIXL : Statement .adcAIXL := fun _ _ _ => rfl
theorem adcAAtIXd : Statement .adcAAtIXd := fun _ _ _ => rfl
theorem subIXH : Statement .subIXH := fun _ _ _ => rfl
theorem subIXL : Statement .subIXL := fun _ _ _ => rfl
theorem subAtIXd : Statement .subAtIXd := fun _ _ _ => rfl
theorem sbcAIXH : Statement .sbcAIXH := fun _ _ _ => rfl
theorem sbcAIXL : Statement .sbcAIXL := fun _ _ _ => rfl
theorem sbcAAtIXd : Statement .sbcAAtIXd := fun _ _ _ => rfl
theorem andIXH : Statement .andIXH := fun _ _ _ => rfl
theorem andIXL : Statement .andIXL := fun _ _ _ => rfl
theorem andAtIXd : Statement .andAtIXd := fun _ _ _ => rfl
theorem xorIXH : Statement .xorIXH := fun _ _ _ => rfl
theorem xorIXL : Statement .xorIXL := fun _ _ _ => rfl
theorem xorAtIXd : Statement .xorAtIXd := fun _ _ _ => rfl
theorem orIXH : Statement .orIXH := fun _ _ _ => rfl
theorem orIXL : Statement .orIXL := fun _ _ _ => rfl
theorem orAtIXd : Statement .orAtIXd := fun _ _ _ => rfl
theorem cpIXH : Statement .cpIXH := fun _ _ _ => rfl
theorem cpIXL : Statement .cpIXL := fun _ _ _ => rfl
theorem cpAtIXd : Statement .cpAtIXd := fun _ _ _ => rfl
theorem popIX : Statement .popIX := fun _ _ _ => rfl
theorem exAtSPIX : Statement .exAtSPIX := fun _ _ _ => rfl
theorem pushIX : Statement .pushIX := fun _ _ _ => rfl
theorem jpAtIX : Statement .jpAtIX := fun _ _ _ => rfl
theorem ldSPIX : Statement .ldSPIX := fun _ _ _ => rfl
theorem addIYBC : Statement .addIYBC := fun _ _ _ => rfl
theorem addIYDE : Statement .addIYDE := fun _ _ _ => rfl
theorem ldIYImm16 : Statement .ldIYImm16 := fun _ _ _ => rfl
theorem ldAtAbsIY : Statement .ldAtAbsIY := fun _ _ _ => rfl
theorem incIY : Statement .incIY := fun _ _ _ => rfl
theorem incIYH : Statement .incIYH := fun _ _ _ => rfl
theorem decIYH : Statement .decIYH := fun _ _ _ => rfl
theorem ldIYHImm : Statement .ldIYHImm := fun _ _ _ => rfl
theorem addIYIY : Statement .addIYIY := fun _ _ _ => rfl
theorem ldIYAtAbs : Statement .ldIYAtAbs := fun _ _ _ => rfl
theorem decIY : Statement .decIY := fun _ _ _ => rfl
theorem incIYL : Statement .incIYL := fun _ _ _ => rfl
theorem decIYL : Statement .decIYL := fun _ _ _ => rfl
theorem ldIYLImm : Statement .ldIYLImm := fun _ _ _ => rfl
theorem incAtIYd : Statement .incAtIYd := fun _ _ _ => rfl
theorem decAtIYd : Statement .decAtIYd := fun _ _ _ => rfl
theorem ldAtIYdImm : Statement .ldAtIYdImm := fun _ _ _ => rfl
theorem addIYSP : Statement .addIYSP := fun _ _ _ => rfl
theorem ldBIYH : Statement .ldBIYH := fun _ _ _ => rfl
theorem ldBIYL : Statement .ldBIYL := fun _ _ _ => rfl
theorem ldBAtIYd : Statement .ldBAtIYd := fun _ _ _ => rfl
theorem ldCIYH : Statement .ldCIYH := fun _ _ _ => rfl
theorem ldCIYL : Statement .ldCIYL := fun _ _ _ => rfl
theorem ldCAtIYd : Statement .ldCAtIYd := fun _ _ _ => rfl
theorem ldDIYH : Statement .ldDIYH := fun _ _ _ => rfl
theorem ldDIYL : Statement .ldDIYL := fun _ _ _ => rfl
theorem ldDAtIYd : Statement .ldDAtIYd := fun _ _ _ => rfl
theorem ldEIYH : Statement .ldEIYH := fun _ _ _ => rfl
theorem ldEIYL : Statement .ldEIYL := fun _ _ _ => rfl
theorem ldEAtIYd : Statement .ldEAtIYd := fun _ _ _ => rfl
theorem ldIYHB : Statement .ldIYHB := fun _ _ _ => rfl
theorem ldIYHC : Statement .ldIYHC := fun _ _ _ => rfl
theorem ldIYHD : Statement .ldIYHD := fun _ _ _ => rfl
theorem ldIYHE : Statement .ldIYHE := fun _ _ _ => rfl
theorem ldIYHIYH : Statement .ldIYHIYH := fun _ _ _ => rfl
theorem ldIYHIYL : Statement .ldIYHIYL := fun _ _ _ => rfl
theorem ldHAtIYd : Statement .ldHAtIYd := fun _ _ _ => rfl
theorem ldIYHA : Statement .ldIYHA := fun _ _ _ => rfl
theorem ldIYLB : Statement .ldIYLB := fun _ _ _ => rfl
theorem ldIYLC : Statement .ldIYLC := fun _ _ _ => rfl
theorem ldIYLD : Statement .ldIYLD := fun _ _ _ => rfl
theorem ldIYLE : Statement .ldIYLE := fun _ _ _ => rfl
theorem ldIYLIYH : Statement .ldIYLIYH := fun _ _ _ => rfl
theorem ldIYLIYL : Statement .ldIYLIYL := fun _ _ _ => rfl
theorem ldLAtIYd : Statement .ldLAtIYd := fun _ _ _ => rfl
theorem ldIYLA : Statement .ldIYLA := fun _ _ _ => rfl
theorem ldAtIYdB : Statement .ldAtIYdB := fun _ _ _ => rfl
theorem ldAtIYdC : Statement .ldAtIYdC := fun _ _ _ => rfl
theorem ldAtIYdD : Statement .ldAtIYdD := fun _ _ _ => rfl
theorem ldAtIYdE : Statement .ldAtIYdE := fun _ _ _ => rfl
theorem ldAtIYdH : Statement .ldAtIYdH := fun _ _ _ => rfl
theorem ldAtIYdL : Statement .ldAtIYdL := fun _ _ _ => rfl
theorem ldAtIYdA : Statement .ldAtIYdA := fun _ _ _ => rfl
theorem ldAIYH : Statement .ldAIYH := fun _ _ _ => rfl
theorem ldAIYL : Statement .ldAIYL := fun _ _ _ => rfl
theorem ldAAtIYd : Statement .ldAAtIYd := fun _ _ _ => rfl
theorem addAIYH : Statement .addAIYH := fun _ _ _ => rfl
theorem addAIYL : Statement .addAIYL := fun _ _ _ => rfl
theorem addAAtIYd : Statement .addAAtIYd := fun _ _ _ => rfl
theorem adcAIYH : Statement .adcAIYH := fun _ _ _ => rfl
theorem adcAIYL : Statement .adcAIYL := fun _ _ _ => rfl
theorem adcAAtIYd : Statement .adcAAtIYd := fun _ _ _ => rfl
theorem subIYH : Statement .subIYH := fun _ _ _ => rfl
theorem subIYL : Statement .subIYL := fun _ _ _ => rfl
theorem subAtIYd : Statement .subAtIYd := fun _ _ _ => rfl
theorem sbcAIYH : Statement .sbcAIYH := fun _ _ _ => rfl
theorem sbcAIYL : Statement .sbcAIYL := fun _ _ _ => rfl
theorem sbcAAtIYd : Statement .sbcAAtIYd := fun _ _ _ => rfl
theorem andIYH : Statement .andIYH := fun _ _ _ => rfl
theorem andIYL : Statement .andIYL := fun _ _ _ => rfl
theorem andAtIYd : Statement .andAtIYd := fun _ _ _ => rfl
theorem xorIYH : Statement .xorIYH := fun _ _ _ => rfl
theorem xorIYL : Statement .xorIYL := fun _ _ _ => rfl
theorem xorAtIYd : Statement .xorAtIYd := fun _ _ _ => rfl
theorem orIYH : Statement .orIYH := fun _ _ _ => rfl
theorem orIYL : Statement .orIYL := fun _ _ _ => rfl
theorem orAtIYd : Statement .orAtIYd := fun _ _ _ => rfl
theorem cpIYH : Statement .cpIYH := fun _ _ _ => rfl
theorem cpIYL : Statement .cpIYL := fun _ _ _ => rfl
theorem cpAtIYd : Statement .cpAtIYd := fun _ _ _ => rfl
theorem popIY : Statement .popIY := fun _ _ _ => rfl
theorem exAtSPIY : Statement .exAtSPIY := fun _ _ _ => rfl
theorem pushIY : Statement .pushIY := fun _ _ _ => rfl
theorem jpAtIY : Statement .jpAtIY := fun _ _ _ => rfl
theorem ldSPIY : Statement .ldSPIY := fun _ _ _ => rfl
theorem ldBRlcAtIXd : Statement .ldBRlcAtIXd := fun _ _ _ => rfl
theorem ldCRlcAtIXd : Statement .ldCRlcAtIXd := fun _ _ _ => rfl
theorem ldDRlcAtIXd : Statement .ldDRlcAtIXd := fun _ _ _ => rfl
theorem ldERlcAtIXd : Statement .ldERlcAtIXd := fun _ _ _ => rfl
theorem ldHRlcAtIXd : Statement .ldHRlcAtIXd := fun _ _ _ => rfl
theorem ldLRlcAtIXd : Statement .ldLRlcAtIXd := fun _ _ _ => rfl
theorem rlcAtIXd : Statement .rlcAtIXd := fun _ _ _ => rfl
theorem ldARlcAtIXd : Statement .ldARlcAtIXd := fun _ _ _ => rfl
theorem ldBRrcAtIXd : Statement .ldBRrcAtIXd := fun _ _ _ => rfl
theorem ldCRrcAtIXd : Statement .ldCRrcAtIXd := fun _ _ _ => rfl
theorem ldDRrcAtIXd : Statement .ldDRrcAtIXd := fun _ _ _ => rfl
theorem ldERrcAtIXd : Statement .ldERrcAtIXd := fun _ _ _ => rfl
theorem ldHRrcAtIXd : Statement .ldHRrcAtIXd := fun _ _ _ => rfl
theorem ldLRrcAtIXd : Statement .ldLRrcAtIXd := fun _ _ _ => rfl
theorem rrcAtIXd : Statement .rrcAtIXd := fun _ _ _ => rfl
theorem ldARrcAtIXd : Statement .ldARrcAtIXd := fun _ _ _ => rfl
theorem ldBRlAtIXd : Statement .ldBRlAtIXd := fun _ _ _ => rfl
theorem ldCRlAtIXd : Statement .ldCRlAtIXd := fun _ _ _ => rfl
theorem ldDRlAtIXd : Statement .ldDRlAtIXd := fun _ _ _ => rfl
theorem ldERlAtIXd : Statement .ldERlAtIXd := fun _ _ _ => rfl
theorem ldHRlAtIXd : Statement .ldHRlAtIXd := fun _ _ _ => rfl
theorem ldLRlAtIXd : Statement .ldLRlAtIXd := fun _ _ _ => rfl
theorem rlAtIXd : Statement .rlAtIXd := fun _ _ _ => rfl
theorem ldARlAtIXd : Statement .ldARlAtIXd := fun _ _ _ => rfl
theorem ldBRrAtIXd : Statement .ldBRrAtIXd := fun _ _ _ => rfl
theorem ldCRrAtIXd : Statement .ldCRrAtIXd := fun _ _ _ => rfl
theorem ldDRrAtIXd : Statement .ldDRrAtIXd := fun _ _ _ => rfl
theorem ldERrAtIXd : Statement .ldERrAtIXd := fun _ _ _ => rfl
theorem ldHRrAtIXd : Statement .ldHRrAtIXd := fun _ _ _ => rfl
theorem ldLRrAtIXd : Statement .ldLRrAtIXd := fun _ _ _ => rfl
theorem rrAtIXd : Statement .rrAtIXd := fun _ _ _ => rfl
theorem ldARrAtIXd : Statement .ldARrAtIXd := fun _ _ _ => rfl
theorem ldBSlaAtIXd : Statement .ldBSlaAtIXd := fun _ _ _ => rfl
theorem ldCSlaAtIXd : Statement .ldCSlaAtIXd := fun _ _ _ => rfl
theorem ldDSlaAtIXd : Statement .ldDSlaAtIXd := fun _ _ _ => rfl
theorem ldESlaAtIXd : Statement .ldESlaAtIXd := fun _ _ _ => rfl
theorem ldHSlaAtIXd : Statement .ldHSlaAtIXd := fun _ _ _ => rfl
theorem ldLSlaAtIXd : Statement .ldLSlaAtIXd := fun _ _ _ => rfl
theorem slaAtIXd : Statement .slaAtIXd := fun _ _ _ => rfl
theorem ldASlaAtIXd : Statement .ldASlaAtIXd := fun _ _ _ => rfl
theorem ldBSraAtIXd : Statement .ldBSraAtIXd := fun _ _ _ => rfl
theorem ldCSraAtIXd : Statement .ldCSraAtIXd := fun _ _ _ => rfl
theorem ldDSraAtIXd : Statement .ldDSraAtIXd := fun _ _ _ => rfl
theorem ldESraAtIXd : Statement .ldESraAtIXd := fun _ _ _ => rfl
theorem ldHSraAtIXd : Statement .ldHSraAtIXd := fun _ _ _ => rfl
theorem ldLSraAtIXd : Statement .ldLSraAtIXd := fun _ _ _ => rfl
theorem sraAtIXd : Statement .sraAtIXd := fun _ _ _ => rfl
theorem ldASraAtIXd : Statement .ldASraAtIXd := fun _ _ _ => rfl
theorem ldBSllAtIXd : Statement .ldBSllAtIXd := fun _ _ _ => rfl
theorem ldCSllAtIXd : Statement .ldCSllAtIXd := fun _ _ _ => rfl
theorem ldDSllAtIXd : Statement .ldDSllAtIXd := fun _ _ _ => rfl
theorem ldESllAtIXd : Statement .ldESllAtIXd := fun _ _ _ => rfl
theorem ldHSllAtIXd : Statement .ldHSllAtIXd := fun _ _ _ => rfl
theorem ldLSllAtIXd : Statement .ldLSllAtIXd := fun _ _ _ => rfl
theorem sllAtIXd : Statement .sllAtIXd := fun _ _ _ => rfl
theorem ldASllAtIXd : Statement .ldASllAtIXd := fun _ _ _ => rfl
theorem ldBSrlAtIXd : Statement .ldBSrlAtIXd := fun _ _ _ => rfl
theorem ldCSrlAtIXd : Statement .ldCSrlAtIXd := fun _ _ _ => rfl
theorem ldDSrlAtIXd : Statement .ldDSrlAtIXd := fun _ _ _ => rfl
theorem ldESrlAtIXd : Statement .ldESrlAtIXd := fun _ _ _ => rfl
theorem ldHSrlAtIXd : Statement .ldHSrlAtIXd := fun _ _ _ => rfl
theorem ldLSrlAtIXd : Statement .ldLSrlAtIXd := fun _ _ _ => rfl
theorem srlAtIXd : Statement .srlAtIXd := fun _ _ _ => rfl
theorem ldASrlAtIXd : Statement .ldASrlAtIXd := fun _ _ _ => rfl
theorem ldBRes0AtIXd : Statement .ldBRes0AtIXd := fun _ _ _ => rfl
theorem ldCRes0AtIXd : Statement .ldCRes0AtIXd := fun _ _ _ => rfl
theorem ldDRes0AtIXd : Statement .ldDRes0AtIXd := fun _ _ _ => rfl
theorem ldERes0AtIXd : Statement .ldERes0AtIXd := fun _ _ _ => rfl
theorem ldHRes0AtIXd : Statement .ldHRes0AtIXd := fun _ _ _ => rfl
theorem ldLRes0AtIXd : Statement .ldLRes0AtIXd := fun _ _ _ => rfl
theorem res0AtIXd : Statement .res0AtIXd := fun _ _ _ => rfl
theorem ldARes0AtIXd : Statement .ldARes0AtIXd := fun _ _ _ => rfl
theorem ldBRes1AtIXd : Statement .ldBRes1AtIXd := fun _ _ _ => rfl
theorem ldCRes1AtIXd : Statement .ldCRes1AtIXd := fun _ _ _ => rfl
theorem ldDRes1AtIXd : Statement .ldDRes1AtIXd := fun _ _ _ => rfl
theorem ldERes1AtIXd : Statement .ldERes1AtIXd := fun _ _ _ => rfl
theorem ldHRes1AtIXd : Statement .ldHRes1AtIXd := fun _ _ _ => rfl
theorem ldLRes1AtIXd : Statement .ldLRes1AtIXd := fun _ _ _ => rfl
theorem res1AtIXd : Statement .res1AtIXd := fun _ _ _ => rfl
theorem ldARes1AtIXd : Statement .ldARes1AtIXd := fun _ _ _ => rfl
theorem ldBRes2AtIXd : Statement .ldBRes2AtIXd := fun _ _ _ => rfl
theorem ldCRes2AtIXd : Statement .ldCRes2AtIXd := fun _ _ _ => rfl
theorem ldDRes2AtIXd : Statement .ldDRes2AtIXd := fun _ _ _ => rfl
theorem ldERes2AtIXd : Statement .ldERes2AtIXd := fun _ _ _ => rfl
theorem ldHRes2AtIXd : Statement .ldHRes2AtIXd := fun _ _ _ => rfl
theorem ldLRes2AtIXd : Statement .ldLRes2AtIXd := fun _ _ _ => rfl
theorem res2AtIXd : Statement .res2AtIXd := fun _ _ _ => rfl
theorem ldARes2AtIXd : Statement .ldARes2AtIXd := fun _ _ _ => rfl
theorem ldBRes3AtIXd : Statement .ldBRes3AtIXd := fun _ _ _ => rfl
theorem ldCRes3AtIXd : Statement .ldCRes3AtIXd := fun _ _ _ => rfl
theorem ldDRes3AtIXd : Statement .ldDRes3AtIXd := fun _ _ _ => rfl
theorem ldERes3AtIXd : Statement .ldERes3AtIXd := fun _ _ _ => rfl
theorem ldHRes3AtIXd : Statement .ldHRes3AtIXd := fun _ _ _ => rfl
theorem ldLRes3AtIXd : Statement .ldLRes3AtIXd := fun _ _ _ => rfl
theorem res3AtIXd : Statement .res3AtIXd := fun _ _ _ => rfl
theorem ldARes3AtIXd : Statement .ldARes3AtIXd := fun _ _ _ => rfl
theorem ldBRes4AtIXd : Statement .ldBRes4AtIXd := fun _ _ _ => rfl
theorem ldCRes4AtIXd : Statement .ldCRes4AtIXd := fun _ _ _ => rfl
theorem ldDRes4AtIXd : Statement .ldDRes4AtIXd := fun _ _ _ => rfl
theorem ldERes4AtIXd : Statement .ldERes4AtIXd := fun _ _ _ => rfl
theorem ldHRes4AtIXd : Statement .ldHRes4AtIXd := fun _ _ _ => rfl
theorem ldLRes4AtIXd : Statement .ldLRes4AtIXd := fun _ _ _ => rfl
theorem res4AtIXd : Statement .res4AtIXd := fun _ _ _ => rfl
theorem ldARes4AtIXd : Statement .ldARes4AtIXd := fun _ _ _ => rfl
theorem ldBRes5AtIXd : Statement .ldBRes5AtIXd := fun _ _ _ => rfl
theorem ldCRes5AtIXd : Statement .ldCRes5AtIXd := fun _ _ _ => rfl
theorem ldDRes5AtIXd : Statement .ldDRes5AtIXd := fun _ _ _ => rfl
theorem ldERes5AtIXd : Statement .ldERes5AtIXd := fun _ _ _ => rfl
theorem ldHRes5AtIXd : Statement .ldHRes5AtIXd := fun _ _ _ => rfl
theorem ldLRes5AtIXd : Statement .ldLRes5AtIXd := fun _ _ _ => rfl
theorem res5AtIXd : Statement .res5AtIXd := fun _ _ _ => rfl
theorem ldARes5AtIXd : Statement .ldARes5AtIXd := fun _ _ _ => rfl
theorem ldBRes6AtIXd : Statement .ldBRes6AtIXd := fun _ _ _ => rfl
theorem ldCRes6AtIXd : Statement .ldCRes6AtIXd := fun _ _ _ => rfl
theorem ldDRes6AtIXd : Statement .ldDRes6AtIXd := fun _ _ _ => rfl
theorem ldERes6AtIXd : Statement .ldERes6AtIXd := fun _ _ _ => rfl
theorem ldHRes6AtIXd : Statement .ldHRes6AtIXd := fun _ _ _ => rfl
theorem ldLRes6AtIXd : Statement .ldLRes6AtIXd := fun _ _ _ => rfl
theorem res6AtIXd : Statement .res6AtIXd := fun _ _ _ => rfl
theorem ldARes6AtIXd : Statement .ldARes6AtIXd := fun _ _ _ => rfl
theorem ldBRes7AtIXd : Statement .ldBRes7AtIXd := fun _ _ _ => rfl
theorem ldCRes7AtIXd : Statement .ldCRes7AtIXd := fun _ _ _ => rfl
theorem ldDRes7AtIXd : Statement .ldDRes7AtIXd := fun _ _ _ => rfl
theorem ldERes7AtIXd : Statement .ldERes7AtIXd := fun _ _ _ => rfl
theorem ldHRes7AtIXd : Statement .ldHRes7AtIXd := fun _ _ _ => rfl
theorem ldLRes7AtIXd : Statement .ldLRes7AtIXd := fun _ _ _ => rfl
theorem res7AtIXd : Statement .res7AtIXd := fun _ _ _ => rfl
theorem ldARes7AtIXd : Statement .ldARes7AtIXd := fun _ _ _ => rfl
theorem ldBSet0AtIXd : Statement .ldBSet0AtIXd := fun _ _ _ => rfl
theorem ldCSet0AtIXd : Statement .ldCSet0AtIXd := fun _ _ _ => rfl
theorem ldDSet0AtIXd : Statement .ldDSet0AtIXd := fun _ _ _ => rfl
theorem ldESet0AtIXd : Statement .ldESet0AtIXd := fun _ _ _ => rfl
theorem ldHSet0AtIXd : Statement .ldHSet0AtIXd := fun _ _ _ => rfl
theorem ldLSet0AtIXd : Statement .ldLSet0AtIXd := fun _ _ _ => rfl
theorem set0AtIXd : Statement .set0AtIXd := fun _ _ _ => rfl
theorem ldASet0AtIXd : Statement .ldASet0AtIXd := fun _ _ _ => rfl
theorem ldBSet1AtIXd : Statement .ldBSet1AtIXd := fun _ _ _ => rfl
theorem ldCSet1AtIXd : Statement .ldCSet1AtIXd := fun _ _ _ => rfl
theorem ldDSet1AtIXd : Statement .ldDSet1AtIXd := fun _ _ _ => rfl
theorem ldESet1AtIXd : Statement .ldESet1AtIXd := fun _ _ _ => rfl
theorem ldHSet1AtIXd : Statement .ldHSet1AtIXd := fun _ _ _ => rfl
theorem ldLSet1AtIXd : Statement .ldLSet1AtIXd := fun _ _ _ => rfl
theorem set1AtIXd : Statement .set1AtIXd := fun _ _ _ => rfl
theorem ldASet1AtIXd : Statement .ldASet1AtIXd := fun _ _ _ => rfl
theorem ldBSet2AtIXd : Statement .ldBSet2AtIXd := fun _ _ _ => rfl
theorem ldCSet2AtIXd : Statement .ldCSet2AtIXd := fun _ _ _ => rfl
theorem ldDSet2AtIXd : Statement .ldDSet2AtIXd := fun _ _ _ => rfl
theorem ldESet2AtIXd : Statement .ldESet2AtIXd := fun _ _ _ => rfl
theorem ldHSet2AtIXd : Statement .ldHSet2AtIXd := fun _ _ _ => rfl
theorem ldLSet2AtIXd : Statement .ldLSet2AtIXd := fun _ _ _ => rfl
theorem set2AtIXd : Statement .set2AtIXd := fun _ _ _ => rfl
theorem ldASet2AtIXd : Statement .ldASet2AtIXd := fun _ _ _ => rfl
theorem ldBSet3AtIXd : Statement .ldBSet3AtIXd := fun _ _ _ => rfl
theorem ldCSet3AtIXd : Statement .ldCSet3AtIXd := fun _ _ _ => rfl
theorem ldDSet3AtIXd : Statement .ldDSet3AtIXd := fun _ _ _ => rfl
theorem ldESet3AtIXd : Statement .ldESet3AtIXd := fun _ _ _ => rfl
theorem ldHSet3AtIXd : Statement .ldHSet3AtIXd := fun _ _ _ => rfl
theorem ldLSet3AtIXd : Statement .ldLSet3AtIXd := fun _ _ _ => rfl
theorem set3AtIXd : Statement .set3AtIXd := fun _ _ _ => rfl
theorem ldASet3AtIXd : Statement .ldASet3AtIXd := fun _ _ _ => rfl
theorem ldBSet4AtIXd : Statement .ldBSet4AtIXd := fun _ _ _ => rfl
theorem ldCSet4AtIXd : Statement .ldCSet4AtIXd := fun _ _ _ => rfl
theorem ldDSet4AtIXd : Statement .ldDSet4AtIXd := fun _ _ _ => rfl
theorem ldESet4AtIXd : Statement .ldESet4AtIXd := fun _ _ _ => rfl
theorem ldHSet4AtIXd : Statement .ldHSet4AtIXd := fun _ _ _ => rfl
theorem ldLSet4AtIXd : Statement .ldLSet4AtIXd := fun _ _ _ => rfl
theorem set4AtIXd : Statement .set4AtIXd := fun _ _ _ => rfl
theorem ldASet4AtIXd : Statement .ldASet4AtIXd := fun _ _ _ => rfl
theorem ldBSet5AtIXd : Statement .ldBSet5AtIXd := fun _ _ _ => rfl
theorem ldCSet5AtIXd : Statement .ldCSet5AtIXd := fun _ _ _ => rfl
theorem ldDSet5AtIXd : Statement .ldDSet5AtIXd := fun _ _ _ => rfl
theorem ldESet5AtIXd : Statement .ldESet5AtIXd := fun _ _ _ => rfl
theorem ldHSet5AtIXd : Statement .ldHSet5AtIXd := fun _ _ _ => rfl
theorem ldLSet5AtIXd : Statement .ldLSet5AtIXd := fun _ _ _ => rfl
theorem set5AtIXd : Statement .set5AtIXd := fun _ _ _ => rfl
theorem ldASet5AtIXd : Statement .ldASet5AtIXd := fun _ _ _ => rfl
theorem ldBSet6AtIXd : Statement .ldBSet6AtIXd := fun _ _ _ => rfl
theorem ldCSet6AtIXd : Statement .ldCSet6AtIXd := fun _ _ _ => rfl
theorem ldDSet6AtIXd : Statement .ldDSet6AtIXd := fun _ _ _ => rfl
theorem ldESet6AtIXd : Statement .ldESet6AtIXd := fun _ _ _ => rfl
theorem ldHSet6AtIXd : Statement .ldHSet6AtIXd := fun _ _ _ => rfl
theorem ldLSet6AtIXd : Statement .ldLSet6AtIXd := fun _ _ _ => rfl
theorem set6AtIXd : Statement .set6AtIXd := fun _ _ _ => rfl
theorem ldASet6AtIXd : Statement .ldASet6AtIXd := fun _ _ _ => rfl
theorem ldBSet7AtIXd : Statement .ldBSet7AtIXd := fun _ _ _ => rfl
theorem ldCSet7AtIXd : Statement .ldCSet7AtIXd := fun _ _ _ => rfl
theorem ldDSet7AtIXd : Statement .ldDSet7AtIXd := fun _ _ _ => rfl
theorem ldESet7AtIXd : Statement .ldESet7AtIXd := fun _ _ _ => rfl
theorem ldHSet7AtIXd : Statement .ldHSet7AtIXd := fun _ _ _ => rfl
theorem ldLSet7AtIXd : Statement .ldLSet7AtIXd := fun _ _ _ => rfl
theorem set7AtIXd : Statement .set7AtIXd := fun _ _ _ => rfl
theorem ldASet7AtIXd : Statement .ldASet7AtIXd := fun _ _ _ => rfl
theorem ldBRlcAtIYd : Statement .ldBRlcAtIYd := fun _ _ _ => rfl
theorem ldCRlcAtIYd : Statement .ldCRlcAtIYd := fun _ _ _ => rfl
theorem ldDRlcAtIYd : Statement .ldDRlcAtIYd := fun _ _ _ => rfl
theorem ldERlcAtIYd : Statement .ldERlcAtIYd := fun _ _ _ => rfl
theorem ldHRlcAtIYd : Statement .ldHRlcAtIYd := fun _ _ _ => rfl
theorem ldLRlcAtIYd : Statement .ldLRlcAtIYd := fun _ _ _ => rfl
theorem rlcAtIYd : Statement .rlcAtIYd := fun _ _ _ => rfl
theorem ldARlcAtIYd : Statement .ldARlcAtIYd := fun _ _ _ => rfl
theorem ldBRrcAtIYd : Statement .ldBRrcAtIYd := fun _ _ _ => rfl
theorem ldCRrcAtIYd : Statement .ldCRrcAtIYd := fun _ _ _ => rfl
theorem ldDRrcAtIYd : Statement .ldDRrcAtIYd := fun _ _ _ => rfl
theorem ldERrcAtIYd : Statement .ldERrcAtIYd := fun _ _ _ => rfl
theorem ldHRrcAtIYd : Statement .ldHRrcAtIYd := fun _ _ _ => rfl
theorem ldLRrcAtIYd : Statement .ldLRrcAtIYd := fun _ _ _ => rfl
theorem rrcAtIYd : Statement .rrcAtIYd := fun _ _ _ => rfl
theorem ldARrcAtIYd : Statement .ldARrcAtIYd := fun _ _ _ => rfl
theorem ldBRlAtIYd : Statement .ldBRlAtIYd := fun _ _ _ => rfl
theorem ldCRlAtIYd : Statement .ldCRlAtIYd := fun _ _ _ => rfl
theorem ldDRlAtIYd : Statement .ldDRlAtIYd := fun _ _ _ => rfl
theorem ldERlAtIYd : Statement .ldERlAtIYd := fun _ _ _ => rfl
theorem ldHRlAtIYd : Statement .ldHRlAtIYd := fun _ _ _ => rfl
theorem ldLRlAtIYd : Statement .ldLRlAtIYd := fun _ _ _ => rfl
theorem rlAtIYd : Statement .rlAtIYd := fun _ _ _ => rfl
theorem ldARlAtIYd : Statement .ldARlAtIYd := fun _ _ _ => rfl
theorem ldBRrAtIYd : Statement .ldBRrAtIYd := fun _ _ _ => rfl
theorem ldCRrAtIYd : Statement .ldCRrAtIYd := fun _ _ _ => rfl
theorem ldDRrAtIYd : Statement .ldDRrAtIYd := fun _ _ _ => rfl
theorem ldERrAtIYd : Statement .ldERrAtIYd := fun _ _ _ => rfl
theorem ldHRrAtIYd : Statement .ldHRrAtIYd := fun _ _ _ => rfl
theorem ldLRrAtIYd : Statement .ldLRrAtIYd := fun _ _ _ => rfl
theorem rrAtIYd : Statement .rrAtIYd := fun _ _ _ => rfl
theorem ldARrAtIYd : Statement .ldARrAtIYd := fun _ _ _ => rfl
theorem ldBSlaAtIYd : Statement .ldBSlaAtIYd := fun _ _ _ => rfl
theorem ldCSlaAtIYd : Statement .ldCSlaAtIYd := fun _ _ _ => rfl
theorem ldDSlaAtIYd : Statement .ldDSlaAtIYd := fun _ _ _ => rfl
theorem ldESlaAtIYd : Statement .ldESlaAtIYd := fun _ _ _ => rfl
theorem ldHSlaAtIYd : Statement .ldHSlaAtIYd := fun _ _ _ => rfl
theorem ldLSlaAtIYd : Statement .ldLSlaAtIYd := fun _ _ _ => rfl
theorem slaAtIYd : Statement .slaAtIYd := fun _ _ _ => rfl
theorem ldASlaAtIYd : Statement .ldASlaAtIYd := fun _ _ _ => rfl
theorem ldBSraAtIYd : Statement .ldBSraAtIYd := fun _ _ _ => rfl
theorem ldCSraAtIYd : Statement .ldCSraAtIYd := fun _ _ _ => rfl
theorem ldDSraAtIYd : Statement .ldDSraAtIYd := fun _ _ _ => rfl
theorem ldESraAtIYd : Statement .ldESraAtIYd := fun _ _ _ => rfl
theorem ldHSraAtIYd : Statement .ldHSraAtIYd := fun _ _ _ => rfl
theorem ldLSraAtIYd : Statement .ldLSraAtIYd := fun _ _ _ => rfl
theorem sraAtIYd : Statement .sraAtIYd := fun _ _ _ => rfl
theorem ldASraAtIYd : Statement .ldASraAtIYd := fun _ _ _ => rfl
theorem ldBSllAtIYd : Statement .ldBSllAtIYd := fun _ _ _ => rfl
theorem ldCSllAtIYd : Statement .ldCSllAtIYd := fun _ _ _ => rfl
theorem ldDSllAtIYd : Statement .ldDSllAtIYd := fun _ _ _ => rfl
theorem ldESllAtIYd : Statement .ldESllAtIYd := fun _ _ _ => rfl
theorem ldHSllAtIYd : Statement .ldHSllAtIYd := fun _ _ _ => rfl
theorem ldLSllAtIYd : Statement .ldLSllAtIYd := fun _ _ _ => rfl
theorem sllAtIYd : Statement .sllAtIYd := fun _ _ _ => rfl
theorem ldASllAtIYd : Statement .ldASllAtIYd := fun _ _ _ => rfl
theorem ldBSrlAtIYd : Statement .ldBSrlAtIYd := fun _ _ _ => rfl
theorem ldCSrlAtIYd : Statement .ldCSrlAtIYd := fun _ _ _ => rfl
theorem ldDSrlAtIYd : Statement .ldDSrlAtIYd := fun _ _ _ => rfl
theorem ldESrlAtIYd : Statement .ldESrlAtIYd := fun _ _ _ => rfl
theorem ldHSrlAtIYd : Statement .ldHSrlAtIYd := fun _ _ _ => rfl
theorem ldLSrlAtIYd : Statement .ldLSrlAtIYd := fun _ _ _ => rfl
theorem srlAtIYd : Statement .srlAtIYd := fun _ _ _ => rfl
theorem ldASrlAtIYd : Statement .ldASrlAtIYd := fun _ _ _ => rfl
theorem ldBRes0AtIYd : Statement .ldBRes0AtIYd := fun _ _ _ => rfl
theorem ldCRes0AtIYd : Statement .ldCRes0AtIYd := fun _ _ _ => rfl
theorem ldDRes0AtIYd : Statement .ldDRes0AtIYd := fun _ _ _ => rfl
theorem ldERes0AtIYd : Statement .ldERes0AtIYd := fun _ _ _ => rfl
theorem ldHRes0AtIYd : Statement .ldHRes0AtIYd := fun _ _ _ => rfl
theorem ldLRes0AtIYd : Statement .ldLRes0AtIYd := fun _ _ _ => rfl
theorem res0AtIYd : Statement .res0AtIYd := fun _ _ _ => rfl
theorem ldARes0AtIYd : Statement .ldARes0AtIYd := fun _ _ _ => rfl
theorem ldBRes1AtIYd : Statement .ldBRes1AtIYd := fun _ _ _ => rfl
theorem ldCRes1AtIYd : Statement .ldCRes1AtIYd := fun _ _ _ => rfl
theorem ldDRes1AtIYd : Statement .ldDRes1AtIYd := fun _ _ _ => rfl
theorem ldERes1AtIYd : Statement .ldERes1AtIYd := fun _ _ _ => rfl
theorem ldHRes1AtIYd : Statement .ldHRes1AtIYd := fun _ _ _ => rfl
theorem ldLRes1AtIYd : Statement .ldLRes1AtIYd := fun _ _ _ => rfl
theorem res1AtIYd : Statement .res1AtIYd := fun _ _ _ => rfl
theorem ldARes1AtIYd : Statement .ldARes1AtIYd := fun _ _ _ => rfl
theorem ldBRes2AtIYd : Statement .ldBRes2AtIYd := fun _ _ _ => rfl
theorem ldCRes2AtIYd : Statement .ldCRes2AtIYd := fun _ _ _ => rfl
theorem ldDRes2AtIYd : Statement .ldDRes2AtIYd := fun _ _ _ => rfl
theorem ldERes2AtIYd : Statement .ldERes2AtIYd := fun _ _ _ => rfl
theorem ldHRes2AtIYd : Statement .ldHRes2AtIYd := fun _ _ _ => rfl
theorem ldLRes2AtIYd : Statement .ldLRes2AtIYd := fun _ _ _ => rfl
theorem res2AtIYd : Statement .res2AtIYd := fun _ _ _ => rfl
theorem ldARes2AtIYd : Statement .ldARes2AtIYd := fun _ _ _ => rfl
theorem ldBRes3AtIYd : Statement .ldBRes3AtIYd := fun _ _ _ => rfl
theorem ldCRes3AtIYd : Statement .ldCRes3AtIYd := fun _ _ _ => rfl
theorem ldDRes3AtIYd : Statement .ldDRes3AtIYd := fun _ _ _ => rfl
theorem ldERes3AtIYd : Statement .ldERes3AtIYd := fun _ _ _ => rfl
theorem ldHRes3AtIYd : Statement .ldHRes3AtIYd := fun _ _ _ => rfl
theorem ldLRes3AtIYd : Statement .ldLRes3AtIYd := fun _ _ _ => rfl
theorem res3AtIYd : Statement .res3AtIYd := fun _ _ _ => rfl
theorem ldARes3AtIYd : Statement .ldARes3AtIYd := fun _ _ _ => rfl
theorem ldBRes4AtIYd : Statement .ldBRes4AtIYd := fun _ _ _ => rfl
theorem ldCRes4AtIYd : Statement .ldCRes4AtIYd := fun _ _ _ => rfl
theorem ldDRes4AtIYd : Statement .ldDRes4AtIYd := fun _ _ _ => rfl
theorem ldERes4AtIYd : Statement .ldERes4AtIYd := fun _ _ _ => rfl
theorem ldHRes4AtIYd : Statement .ldHRes4AtIYd := fun _ _ _ => rfl
theorem ldLRes4AtIYd : Statement .ldLRes4AtIYd := fun _ _ _ => rfl
theorem res4AtIYd : Statement .res4AtIYd := fun _ _ _ => rfl
theorem ldARes4AtIYd : Statement .ldARes4AtIYd := fun _ _ _ => rfl
theorem ldBRes5AtIYd : Statement .ldBRes5AtIYd := fun _ _ _ => rfl
theorem ldCRes5AtIYd : Statement .ldCRes5AtIYd := fun _ _ _ => rfl
theorem ldDRes5AtIYd : Statement .ldDRes5AtIYd := fun _ _ _ => rfl
theorem ldERes5AtIYd : Statement .ldERes5AtIYd := fun _ _ _ => rfl
theorem ldHRes5AtIYd : Statement .ldHRes5AtIYd := fun _ _ _ => rfl
theorem ldLRes5AtIYd : Statement .ldLRes5AtIYd := fun _ _ _ => rfl
theorem res5AtIYd : Statement .res5AtIYd := fun _ _ _ => rfl
theorem ldARes5AtIYd : Statement .ldARes5AtIYd := fun _ _ _ => rfl
theorem ldBRes6AtIYd : Statement .ldBRes6AtIYd := fun _ _ _ => rfl
theorem ldCRes6AtIYd : Statement .ldCRes6AtIYd := fun _ _ _ => rfl
theorem ldDRes6AtIYd : Statement .ldDRes6AtIYd := fun _ _ _ => rfl
theorem ldERes6AtIYd : Statement .ldERes6AtIYd := fun _ _ _ => rfl
theorem ldHRes6AtIYd : Statement .ldHRes6AtIYd := fun _ _ _ => rfl
theorem ldLRes6AtIYd : Statement .ldLRes6AtIYd := fun _ _ _ => rfl
theorem res6AtIYd : Statement .res6AtIYd := fun _ _ _ => rfl
theorem ldARes6AtIYd : Statement .ldARes6AtIYd := fun _ _ _ => rfl
theorem ldBRes7AtIYd : Statement .ldBRes7AtIYd := fun _ _ _ => rfl
theorem ldCRes7AtIYd : Statement .ldCRes7AtIYd := fun _ _ _ => rfl
theorem ldDRes7AtIYd : Statement .ldDRes7AtIYd := fun _ _ _ => rfl
theorem ldERes7AtIYd : Statement .ldERes7AtIYd := fun _ _ _ => rfl
theorem ldHRes7AtIYd : Statement .ldHRes7AtIYd := fun _ _ _ => rfl
theorem ldLRes7AtIYd : Statement .ldLRes7AtIYd := fun _ _ _ => rfl
theorem res7AtIYd : Statement .res7AtIYd := fun _ _ _ => rfl
theorem ldARes7AtIYd : Statement .ldARes7AtIYd := fun _ _ _ => rfl
theorem ldBSet0AtIYd : Statement .ldBSet0AtIYd := fun _ _ _ => rfl
theorem ldCSet0AtIYd : Statement .ldCSet0AtIYd := fun _ _ _ => rfl
theorem ldDSet0AtIYd : Statement .ldDSet0AtIYd := fun _ _ _ => rfl
theorem ldESet0AtIYd : Statement .ldESet0AtIYd := fun _ _ _ => rfl
theorem ldHSet0AtIYd : Statement .ldHSet0AtIYd := fun _ _ _ => rfl
theorem ldLSet0AtIYd : Statement .ldLSet0AtIYd := fun _ _ _ => rfl
theorem set0AtIYd : Statement .set0AtIYd := fun _ _ _ => rfl
theorem ldASet0AtIYd : Statement .ldASet0AtIYd := fun _ _ _ => rfl
theorem ldBSet1AtIYd : Statement .ldBSet1AtIYd := fun _ _ _ => rfl
theorem ldCSet1AtIYd : Statement .ldCSet1AtIYd := fun _ _ _ => rfl
theorem ldDSet1AtIYd : Statement .ldDSet1AtIYd := fun _ _ _ => rfl
theorem ldESet1AtIYd : Statement .ldESet1AtIYd := fun _ _ _ => rfl
theorem ldHSet1AtIYd : Statement .ldHSet1AtIYd := fun _ _ _ => rfl
theorem ldLSet1AtIYd : Statement .ldLSet1AtIYd := fun _ _ _ => rfl
theorem set1AtIYd : Statement .set1AtIYd := fun _ _ _ => rfl
theorem ldASet1AtIYd : Statement .ldASet1AtIYd := fun _ _ _ => rfl
theorem ldBSet2AtIYd : Statement .ldBSet2AtIYd := fun _ _ _ => rfl
theorem ldCSet2AtIYd : Statement .ldCSet2AtIYd := fun _ _ _ => rfl
theorem ldDSet2AtIYd : Statement .ldDSet2AtIYd := fun _ _ _ => rfl
theorem ldESet2AtIYd : Statement .ldESet2AtIYd := fun _ _ _ => rfl
theorem ldHSet2AtIYd : Statement .ldHSet2AtIYd := fun _ _ _ => rfl
theorem ldLSet2AtIYd : Statement .ldLSet2AtIYd := fun _ _ _ => rfl
theorem set2AtIYd : Statement .set2AtIYd := fun _ _ _ => rfl
theorem ldASet2AtIYd : Statement .ldASet2AtIYd := fun _ _ _ => rfl
theorem ldBSet3AtIYd : Statement .ldBSet3AtIYd := fun _ _ _ => rfl
theorem ldCSet3AtIYd : Statement .ldCSet3AtIYd := fun _ _ _ => rfl
theorem ldDSet3AtIYd : Statement .ldDSet3AtIYd := fun _ _ _ => rfl
theorem ldESet3AtIYd : Statement .ldESet3AtIYd := fun _ _ _ => rfl
theorem ldHSet3AtIYd : Statement .ldHSet3AtIYd := fun _ _ _ => rfl
theorem ldLSet3AtIYd : Statement .ldLSet3AtIYd := fun _ _ _ => rfl
theorem set3AtIYd : Statement .set3AtIYd := fun _ _ _ => rfl
theorem ldASet3AtIYd : Statement .ldASet3AtIYd := fun _ _ _ => rfl
theorem ldBSet4AtIYd : Statement .ldBSet4AtIYd := fun _ _ _ => rfl
theorem ldCSet4AtIYd : Statement .ldCSet4AtIYd := fun _ _ _ => rfl
theorem ldDSet4AtIYd : Statement .ldDSet4AtIYd := fun _ _ _ => rfl
theorem ldESet4AtIYd : Statement .ldESet4AtIYd := fun _ _ _ => rfl
theorem ldHSet4AtIYd : Statement .ldHSet4AtIYd := fun _ _ _ => rfl
theorem ldLSet4AtIYd : Statement .ldLSet4AtIYd := fun _ _ _ => rfl
theorem set4AtIYd : Statement .set4AtIYd := fun _ _ _ => rfl
theorem ldASet4AtIYd : Statement .ldASet4AtIYd := fun _ _ _ => rfl
theorem ldBSet5AtIYd : Statement .ldBSet5AtIYd := fun _ _ _ => rfl
theorem ldCSet5AtIYd : Statement .ldCSet5AtIYd := fun _ _ _ => rfl
theorem ldDSet5AtIYd : Statement .ldDSet5AtIYd := fun _ _ _ => rfl
theorem ldESet5AtIYd : Statement .ldESet5AtIYd := fun _ _ _ => rfl
theorem ldHSet5AtIYd : Statement .ldHSet5AtIYd := fun _ _ _ => rfl
theorem ldLSet5AtIYd : Statement .ldLSet5AtIYd := fun _ _ _ => rfl
theorem set5AtIYd : Statement .set5AtIYd := fun _ _ _ => rfl
theorem ldASet5AtIYd : Statement .ldASet5AtIYd := fun _ _ _ => rfl
theorem ldBSet6AtIYd : Statement .ldBSet6AtIYd := fun _ _ _ => rfl
theorem ldCSet6AtIYd : Statement .ldCSet6AtIYd := fun _ _ _ => rfl
theorem ldDSet6AtIYd : Statement .ldDSet6AtIYd := fun _ _ _ => rfl
theorem ldESet6AtIYd : Statement .ldESet6AtIYd := fun _ _ _ => rfl
theorem ldHSet6AtIYd : Statement .ldHSet6AtIYd := fun _ _ _ => rfl
theorem ldLSet6AtIYd : Statement .ldLSet6AtIYd := fun _ _ _ => rfl
theorem set6AtIYd : Statement .set6AtIYd := fun _ _ _ => rfl
theorem ldASet6AtIYd : Statement .ldASet6AtIYd := fun _ _ _ => rfl
theorem ldBSet7AtIYd : Statement .ldBSet7AtIYd := fun _ _ _ => rfl
theorem ldCSet7AtIYd : Statement .ldCSet7AtIYd := fun _ _ _ => rfl
theorem ldDSet7AtIYd : Statement .ldDSet7AtIYd := fun _ _ _ => rfl
theorem ldESet7AtIYd : Statement .ldESet7AtIYd := fun _ _ _ => rfl
theorem ldHSet7AtIYd : Statement .ldHSet7AtIYd := fun _ _ _ => rfl
theorem ldLSet7AtIYd : Statement .ldLSet7AtIYd := fun _ _ _ => rfl
theorem set7AtIYd : Statement .set7AtIYd := fun _ _ _ => rfl
theorem ldASet7AtIYd : Statement .ldASet7AtIYd := fun _ _ _ => rfl

end Sys2Proof.Laws.CodeLength
end

