-- ==== Sys2Proof/Laws/Runs.lean ====
section
/-! SUPPORT. `Runs s t`: the part of a step's invariants that every operation keeps, with one lemma for each shared
operation. From `Runs s u` the lemma of an operation gives `Runs s (op u)`, so the lemmas compose as the
operations do. -/

namespace Sys2Proof.Machine

/-- What holds between a state and a later state of the same step. -/
structure State.Runs (s t : State) : Prop where
  platform : t.platform = s.platform
  cycles : s.cycles ≤ t.cycles
  wf : s.mem.wf = true → t.mem.wf = true
  trace : s.TraceOrdered → t.TraceOrdered
  int : t.ctl.interruptPending = s.ctl.interruptPending
  nmi : t.ctl.nmiPending = s.ctl.nmiPending

/-! ## Time -/

/-- Contended units only add time. -/
theorem le_contendedUnits (p : Platform) (d n : Nat) (c : Int) : c ≤ p.contendedUnits d n c := by
  induction n generalizing c with
  | zero => exact Int.le_refl c
  | succ n ih => exact Int.le_trans (by omega) (ih _)

/-- Contention only adds time. -/
theorem le_afterContend (p : Platform) (a : Word) (d n : Nat) (c : Int) : c ≤ p.afterContend a d n c := by
  unfold Platform.afterContend
  split
  · exact le_contendedUnits p d n c
  · have : (0 : Int) ≤ d * n := by positivity
    omega

/-- A port access only adds time. -/
theorem le_afterPort (p : Platform) (a : Word) (c : Int) : c ≤ p.afterPort a c := by
  refine Int.le_trans (le_afterContend p a 1 1 c) ?_
  unfold Platform.afterPort Platform.afterPortLate Platform.afterPortEarly
  split
  · exact le_afterContend _ _ _ _ _
  · split
    · exact le_contendedUnits _ _ _ _
    · omega

/-- The trace stays ordered when an access is noted at the present time. -/
theorem State.TraceOrdered.cons {s t : State} {e : BusEvent} (h : s.TraceOrdered) (hc : s.cycles ≤ t.cycles)
    (hb : t.bus = e :: s.bus) (he : e.time = t.cycles) : t.TraceOrdered := by
  refine ⟨?_, ?_⟩
  · rw [hb, List.map_cons, List.pairwise_cons]
    refine ⟨fun x hx => ?_, h.1⟩
    obtain ⟨e', he', rfl⟩ := List.mem_map.1 hx
    have := h.2 e' he'
    omega
  · intro x hx
    rw [hb] at hx
    rcases List.mem_cons.1 hx with rfl | hx
    · omega
    · have := h.2 x hx
      omega

/-- The trace stays ordered when time passes. -/
theorem State.TraceOrdered.later {s t : State} (h : s.TraceOrdered) (hc : s.cycles ≤ t.cycles) (hb : t.bus = s.bus) :
    t.TraceOrdered :=
  ⟨hb ▸ h.1, fun e he => Int.le_trans (h.2 e (hb ▸ he)) hc⟩

namespace State.Runs

/-! ## Primitives -/

@[simp] theorem refl (s : State) : Runs s s := ⟨rfl, Int.le_refl _, id, id, rfl, rfl⟩

theorem trans {s t u : State} (h : Runs s t) (k : Runs t u) : Runs s u :=
  ⟨k.platform.trans h.platform, Int.le_trans h.cycles k.cycles, k.wf ∘ h.wf, k.trace ∘ h.trace, k.int.trans h.int,
    k.nmi.trans h.nmi⟩

/-- A state that differs in registers, shadow bank and the control cells other than the latches only. -/
theorem regsOnly {s u t : State} (h : Runs s u) (p : t.platform = u.platform) (c : t.cycles = u.cycles)
    (m : t.mem = u.mem) (b : t.bus = u.bus) (i : t.ctl.interruptPending = u.ctl.interruptPending)
    (n : t.ctl.nmiPending = u.ctl.nmiPending) : Runs s t :=
  h.trans ⟨p, by omega, fun w => m ▸ w, fun o => o.later (by omega) b, i, n⟩

@[simp] theorem setReg8 {s u : State} (h : Runs s u) (x : Reg8) (v : Byte) : Runs s (u.setReg8 x v) := h.regsOnly rfl rfl rfl rfl rfl rfl
@[simp] theorem setReg16 {s u : State} (h : Runs s u) (p : Reg16) (w : Word) : Runs s (u.setReg16 p w) := h.regsOnly rfl rfl rfl rfl rfl rfl
@[simp] theorem setA {s u : State} (h : Runs s u) (v : Byte) : Runs s (u.setA v) := h.regsOnly rfl rfl rfl rfl rfl rfl
@[simp] theorem setF {s u : State} (h : Runs s u) (v : Byte) : Runs s (u.setF v) := h.regsOnly rfl rfl rfl rfl rfl rfl
@[simp] theorem setPc {s u : State} (h : Runs s u) (w : Word) : Runs s (u.setPc w) := h.regsOnly rfl rfl rfl rfl rfl rfl
@[simp] theorem setSp {s u : State} (h : Runs s u) (w : Word) : Runs s (u.setSp w) := h.regsOnly rfl rfl rfl rfl rfl rfl
@[simp] theorem setMemptr {s u : State} (h : Runs s u) (w : Word) : Runs s (u.setMemptr w) := h.regsOnly rfl rfl rfl rfl rfl rfl
@[simp] theorem refresh {s u : State} (h : Runs s u) : Runs s u.refresh := h.regsOnly rfl rfl rfl rfl rfl rfl
@[simp] theorem advance {s u : State} (h : Runs s u) : Runs s u.advance := h.regsOnly rfl rfl rfl rfl rfl rfl

@[simp] theorem contend {s u : State} (h : Runs s u) (a : Word) (d n : Nat) : Runs s (u.contend a d n) :=
  h.trans ⟨rfl, le_afterContend _ _ _ _ _, id, fun o => o.later (le_afterContend _ _ _ _ _) rfl, rfl, rfl⟩

@[simp] theorem memRead {s u : State} (h : Runs s u) (a : Word) : Runs s (u.memRead a) :=
  h.trans ⟨rfl, le_afterContend _ _ _ _ _, id, fun o => o.cons (le_afterContend _ _ _ _ _) rfl rfl, rfl, rfl⟩

@[simp] theorem memWrite {s u : State} (h : Runs s u) (a : Word) (v : Byte) : Runs s (u.memWrite a v) :=
  h.trans ⟨rfl, le_afterContend _ _ _ _ _, fun w => memWrite_wf w a v,
    fun o => o.cons (le_afterContend _ _ _ _ _) rfl rfl, rfl, rfl⟩

@[simp] theorem portRead {s u : State} (h : Runs s u) (p : Word) : Runs s (u.portRead p) :=
  h.trans ⟨rfl, le_afterPort _ _ _, id, fun o => o.cons (le_afterPort _ _ _) rfl rfl, rfl, rfl⟩

@[simp] theorem portWrite {s u : State} (h : Runs s u) (p : Word) (v : Byte) : Runs s (u.portWrite p v) :=
  h.trans ⟨rfl, le_afterPort _ _ _, id, fun o => o.cons (le_afterPort _ _ _) rfl rfl, rfl, rfl⟩

@[simp] theorem memRead16 {s u : State} (h : Runs s u) (a : Word) : Runs s (u.memRead16 a) :=
  (h.memRead _).memRead _

@[simp] theorem memWrite16 {s u : State} (h : Runs s u) (a w : Word) : Runs s (u.memWrite16 a w) :=
  (h.memWrite _ _).memWrite _ _

@[simp] theorem fetch {s u : State} (h : Runs s u) : Runs s u.fetch := ((h.contend _ _ _).advance).refresh

@[simp] theorem fetch2 {s u : State} (h : Runs s u) : Runs s u.fetch2 := h.fetch.fetch

@[simp] theorem operandRead {s u : State} (h : Runs s u) : Runs s u.operandRead := h.memRead _

@[simp] theorem imm8 {s u : State} (h : Runs s u) : Runs s u.imm8 := h.operandRead.advance

@[simp] theorem imm16 {s u : State} (h : Runs s u) : Runs s u.imm16 := h.imm8.imm8

@[simp] theorem push16 {s u : State} (h : Runs s u) (w : Word) : Runs s (u.push16 w) :=
  (((h.setSp _).memWrite _ _).setSp _).memWrite _ _

@[simp] theorem pop16 {s u : State} (h : Runs s u) : Runs s u.pop16 := (((h.memRead _).setSp _).memRead _).setSp _

@[simp] theorem returnToCaller {s u : State} (h : Runs s u) : Runs s u.returnToCaller := (h.pop16.setPc _).setMemptr _

@[simp] theorem returnFromInterrupt {s u : State} (h : Runs s u) : Runs s u.returnFromInterrupt :=
  (h.regsOnly (t := u.setCtl { u.ctl with iff1 := u.ctl.iff2 }) rfl rfl rfl rfl rfl rfl).returnToCaller

@[simp] theorem effectiveAddress {s u : State} (h : Runs s u) (ii : Idx) : Runs s (u.effectiveAddress ii) :=
  ((h.operandRead.contend _ _ _).advance).setMemptr _

@[simp] theorem indexedCbOperand {s u : State} (h : Runs s u) (ii : Idx) : Runs s (u.indexedCbOperand ii) :=
  ((((h.imm8.operandRead.contend _ _ _).advance).setMemptr _).memRead _).contend _ _ _

@[simp] theorem fetch_self (s : State) : Runs s s.fetch := (refl s).fetch

@[simp] theorem fetch2_self (s : State) : Runs s s.fetch2 := (refl s).fetch2

/-- Either branch of a test. -/
theorem ite {s t u : State} {c : Prop} [Decidable c] (h : Runs s t) (k : Runs s u) : Runs s (if c then t else u) := by
  split <;> assumption

end State.Runs

open State

/-! ## Loads, exchanges, accumulator ports -/

@[simp] theorem ldRegReg_runs {s u : State} (h : Runs s u) (x y : Reg8) : Runs s (ldRegReg x y u) :=
  h.setReg8 _ _

@[simp] theorem ldRegImm_runs {s u : State} (h : Runs s u) (x : Reg8) : Runs s (ldRegImm x u) :=
  h.imm8.setReg8 _ _

@[simp] theorem ldRegMem_runs {s u : State} (h : Runs s u) (x : Reg8) : Runs s (ldRegMem x u) :=
  (h.memRead _).setReg8 _ _

@[simp] theorem stMemReg_runs {s u : State} (h : Runs s u) (x : Reg8) : Runs s (stMemReg x u) :=
  h.memWrite _ _

@[simp] theorem stMemImm_runs {s u : State} (h : Runs s u) : Runs s (stMemImm u) :=
  h.imm8.memWrite _ _

@[simp] theorem ldAPtr_runs {s u : State} (h : Runs s u) (p : Reg16) : Runs s (ldAPtr p u) :=
  ((h.memRead _).setA _).setMemptr _

@[simp] theorem ldAAbs_runs {s u : State} (h : Runs s u) : Runs s (ldAAbs u) :=
  ((h.imm16.memRead _).setA _).setMemptr _

@[simp] theorem stAPtr_runs {s u : State} (h : Runs s u) (p : Reg16) : Runs s (stAPtr p u) :=
  (h.memWrite _ _).setMemptr _

@[simp] theorem stAAbs_runs {s u : State} (h : Runs s u) : Runs s (stAAbs u) :=
  (h.imm16.memWrite _ _).setMemptr _

@[simp] theorem ldPairImm_runs {s u : State} (h : Runs s u) (p : Reg16) : Runs s (ldPairImm p u) :=
  h.imm16.setReg16 _ _

@[simp] theorem ldPairAbs_runs {s u : State} (h : Runs s u) (p : Reg16) : Runs s (ldPairAbs p u) :=
  ((h.imm16.memRead16 _).setReg16 _ _).setMemptr _

@[simp] theorem stPairAbs_runs {s u : State} (h : Runs s u) (p : Reg16) : Runs s (stPairAbs p u) :=
  (h.imm16.memWrite16 _ _).setMemptr _

@[simp] theorem ldSpPair_runs {s u : State} (h : Runs s u) (p : Reg16) : Runs s (ldSpPair p u) :=
  (h.contend _ _ _).setSp _

@[simp] theorem pushPair_runs {s u : State} (h : Runs s u) (p : Reg16) : Runs s (pushPair p u) :=
  (h.contend _ _ _).push16 _

@[simp] theorem popPair_runs {s u : State} (h : Runs s u) (p : Reg16) : Runs s (popPair p u) :=
  h.pop16.setReg16 _ _

@[simp] theorem exAF_runs {s u : State} (h : Runs s u) : Runs s (exAF u) :=
  h.regsOnly rfl rfl rfl rfl rfl rfl

@[simp] theorem exx_runs {s u : State} (h : Runs s u) : Runs s (exx u) :=
  h.regsOnly rfl rfl rfl rfl rfl rfl

@[simp] theorem exDEHL_runs {s u : State} (h : Runs s u) : Runs s (exDEHL u) :=
  (h.setReg16 _ _).setReg16 _ _

@[simp] theorem exSpPair_runs {s u : State} (h : Runs s u) (p : Reg16) : Runs s (exSpPair p u) :=
  (((((((h.memRead16 _).contend _ _ _).memWrite _ _).memWrite _ _).contend _ _ _).setReg16 _ _).setMemptr _)

@[simp] theorem inAImm_runs {s u : State} (h : Runs s u) : Runs s (inAImm u) :=
  ((h.imm8.portRead _).setA _).setMemptr _

@[simp] theorem outImmA_runs {s u : State} (h : Runs s u) : Runs s (outImmA u) :=
  (h.imm8.portWrite _ _).setMemptr _

/-! ## Arithmetic -/

@[simp] theorem accumulate_runs {s u : State} (h : Runs s u) (op : AluOp) (v : Byte) : Runs s (accumulate op v u) :=
  (h.setA _).setF _

@[simp] theorem aluReg_runs {s u : State} (h : Runs s u) (op : AluOp) (x : Reg8) : Runs s (aluReg op x u) :=
  accumulate_runs h _ _

@[simp] theorem aluMem_runs {s u : State} (h : Runs s u) (op : AluOp) : Runs s (aluMem op u) :=
  accumulate_runs (h.memRead _) _ _

@[simp] theorem aluImm_runs {s u : State} (h : Runs s u) (op : AluOp) : Runs s (aluImm op u) :=
  accumulate_runs h.imm8 _ _

@[simp] theorem incReg_runs {s u : State} (h : Runs s u) (x : Reg8) : Runs s (incReg x u) :=
  (h.setReg8 _ _).setF _

@[simp] theorem decReg_runs {s u : State} (h : Runs s u) (x : Reg8) : Runs s (decReg x u) :=
  (h.setReg8 _ _).setF _

@[simp] theorem modifyMem_runs {s u : State} (h : Runs s u) (a : Word) (o : AluOut) : Runs s (modifyMem a o u) :=
  (((h.memRead _).contend _ _ _).memWrite _ _).setF _

@[simp] theorem incMem_runs {s u : State} (h : Runs s u) : Runs s (incMem u) :=
  modifyMem_runs h _ _

@[simp] theorem decMem_runs {s u : State} (h : Runs s u) : Runs s (decMem u) :=
  modifyMem_runs h _ _

@[simp] theorem incPair_runs {s u : State} (h : Runs s u) (p : Reg16) : Runs s (incPair p u) :=
  (h.contend _ _ _).setReg16 _ _

@[simp] theorem decPair_runs {s u : State} (h : Runs s u) (p : Reg16) : Runs s (decPair p u) :=
  (h.contend _ _ _).setReg16 _ _

@[simp] theorem addPair_runs {s u : State} (h : Runs s u) (p q : Reg16) : Runs s (addPair p q u) :=
  (((h.contend _ _ _).setMemptr _).setF _).setReg16 _ _

@[simp] theorem rotAcc_runs {s u : State} (h : Runs s u) (op : RotOp) : Runs s (rotAcc op u) :=
  (h.setA _).setF _

@[simp] theorem daa_runs {s u : State} (h : Runs s u) : Runs s (daa u) :=
  (h.setA _).setF _

@[simp] theorem cpl_runs {s u : State} (h : Runs s u) : Runs s (cpl u) :=
  (h.setA _).setF _

@[simp] theorem scf_runs {s u : State} (h : Runs s u) : Runs s (scf u) :=
  h.setF _

@[simp] theorem ccf_runs {s u : State} (h : Runs s u) : Runs s (ccf u) :=
  h.setF _

/-! ## Control -/

@[simp] theorem nop_runs {s u : State} (h : Runs s u) : Runs s (nop u) :=
  h

@[simp] theorem jp_runs {s u : State} (h : Runs s u) : Runs s (jp u) :=
  (h.imm16.setPc _).setMemptr _

@[simp] theorem jpCond_runs {s u : State} (h : Runs s u) (cc : Cond) : Runs s (jpCond cc u) :=
  ((h.imm16.setMemptr _).setPc _).ite (h.imm16.setMemptr _)

@[simp] theorem jpPair_runs {s u : State} (h : Runs s u) (p : Reg16) : Runs s (jpPair p u) :=
  h.setPc _

@[simp] theorem relJump_runs {s u : State} (h : Runs s u) (taken : Bool) : Runs s (relJump taken u) :=
  (((h.operandRead.contend _ _ _).setPc _).setMemptr _).ite h.operandRead.advance

@[simp] theorem jr_runs {s u : State} (h : Runs s u) : Runs s (jr u) :=
  relJump_runs h _

@[simp] theorem jrCond_runs {s u : State} (h : Runs s u) (cc : Cond) : Runs s (jrCond cc u) :=
  relJump_runs h _

@[simp] theorem djnz_runs {s u : State} (h : Runs s u) : Runs s (djnz u) :=
  relJump_runs ((h.contend _ _ _).setReg8 _ _) _

@[simp] theorem callOperand_runs {s u : State} (h : Runs s u) : Runs s (callOperand u) :=
  h.imm8.operandRead

@[simp] theorem callTaken_runs {s u : State} (h : Runs s u) (nn : Word) : Runs s (callTaken nn u) :=
  ((((h.contend _ _ _).advance).push16 _).setPc _)

@[simp] theorem call_runs {s u : State} (h : Runs s u) : Runs s (call u) :=
  (callTaken_runs (callOperand_runs h) _).setMemptr _

@[simp] theorem callCond_runs {s u : State} (h : Runs s u) (cc : Cond) : Runs s (callCond cc u) :=
  (callTaken_runs ((callOperand_runs h).setMemptr _) _).ite ((callOperand_runs h).setMemptr _).advance

@[simp] theorem ret_runs {s u : State} (h : Runs s u) : Runs s (ret u) :=
  h.returnToCaller

@[simp] theorem retCond_runs {s u : State} (h : Runs s u) (cc : Cond) : Runs s (retCond cc u) :=
  (h.contend _ _ _).returnToCaller.ite (h.contend _ _ _)

@[simp] theorem rst_runs {s u : State} (h : Runs s u) (w : Word) : Runs s (rst w u) :=
  (((h.contend _ _ _).push16 _).setPc _).setMemptr _

@[simp] theorem halt_runs {s u : State} (h : Runs s u) : Runs s (halt u) :=
  h.regsOnly rfl rfl rfl rfl rfl rfl

@[simp] theorem di_runs {s u : State} (h : Runs s u) : Runs s (di u) :=
  h.regsOnly rfl rfl rfl rfl rfl rfl

@[simp] theorem ei_runs {s u : State} (h : Runs s u) : Runs s (ei u) :=
  h.regsOnly rfl rfl rfl rfl rfl rfl

@[simp] theorem leadByte_runs {s u : State} (h : Runs s u) : Runs s (leadByte u) :=
  h

/-! ## Bit operations -/

@[simp] theorem rotReg_runs {s u : State} (h : Runs s u) (op : RotOp) (x : Reg8) : Runs s (rotReg op x u) :=
  (h.setReg8 _ _).setF _

@[simp] theorem rotMem_runs {s u : State} (h : Runs s u) (op : RotOp) : Runs s (rotMem op u) :=
  modifyMem_runs h _ _

@[simp] theorem bitReg_runs {s u : State} (h : Runs s u) (b : Nat) (x : Reg8) : Runs s (bitReg b x u) :=
  h.setF _

@[simp] theorem bitMem_runs {s u : State} (h : Runs s u) (b : Nat) : Runs s (bitMem b u) :=
  ((h.memRead _).contend _ _ _).setF _

@[simp] theorem resReg_runs {s u : State} (h : Runs s u) (b : Nat) (x : Reg8) : Runs s (resReg b x u) :=
  h.setReg8 _ _

@[simp] theorem resMem_runs {s u : State} (h : Runs s u) (b : Nat) : Runs s (resMem b u) :=
  modifyMem_runs h _ _

@[simp] theorem setBitReg_runs {s u : State} (h : Runs s u) (b : Nat) (x : Reg8) : Runs s (setBitReg b x u) :=
  h.setReg8 _ _

@[simp] theorem setMem_runs {s u : State} (h : Runs s u) (b : Nat) : Runs s (setMem b u) :=
  modifyMem_runs h _ _

/-! ## The ED table -/

@[simp] theorem inC_runs {s u : State} (h : Runs s u) : Runs s (inC u) :=
  ((h.setMemptr _).portRead _).setF _

@[simp] theorem inRegC_runs {s u : State} (h : Runs s u) (x : Reg8) : Runs s (inRegC x u) :=
  (inC_runs h).setReg8 _ _

@[simp] theorem outC_runs {s u : State} (h : Runs s u) (v : Byte) : Runs s (outC v u) :=
  (h.portWrite _ _).setMemptr _

@[simp] theorem outCReg_runs {s u : State} (h : Runs s u) (x : Reg8) : Runs s (outCReg x u) :=
  outC_runs h _

@[simp] theorem outCZero_runs {s u : State} (h : Runs s u) : Runs s (outCZero u) :=
  outC_runs h _

@[simp] theorem sbcHL_runs {s u : State} (h : Runs s u) (p : Reg16) : Runs s (sbcHL p u) :=
  (((h.contend _ _ _).setMemptr _).setF _).setReg16 _ _

@[simp] theorem adcHL_runs {s u : State} (h : Runs s u) (p : Reg16) : Runs s (adcHL p u) :=
  (((h.contend _ _ _).setMemptr _).setF _).setReg16 _ _

@[simp] theorem neg_runs {s u : State} (h : Runs s u) : Runs s (neg u) :=
  (h.setA _).setF _

@[simp] theorem retn_runs {s u : State} (h : Runs s u) : Runs s (retn u) :=
  h.returnFromInterrupt

@[simp] theorem reti_runs {s u : State} (h : Runs s u) : Runs s (reti u) :=
  h.returnFromInterrupt

@[simp] theorem setMode_runs {s u : State} (h : Runs s u) (m : IntMode) : Runs s (setMode m u) :=
  h.regsOnly rfl rfl rfl rfl rfl rfl

@[simp] theorem ldIA_runs {s u : State} (h : Runs s u) : Runs s (ldIA u) :=
  (h.contend _ _ _).setReg8 _ _

@[simp] theorem ldRA_runs {s u : State} (h : Runs s u) : Runs s (ldRA u) :=
  (h.contend _ _ _).setReg8 _ _

@[simp] theorem ldAFrom_runs {s u : State} (h : Runs s u) (v : Byte) : Runs s (ldAFrom v u) :=
  ((h.contend _ _ _).setA _).setF _

@[simp] theorem ldAI_runs {s u : State} (h : Runs s u) : Runs s (ldAI u) :=
  ldAFrom_runs h _

@[simp] theorem ldAR_runs {s u : State} (h : Runs s u) : Runs s (ldAR u) :=
  ldAFrom_runs h _

@[simp] theorem rotateDigit_runs {s u : State} (h : Runs s u) (m a : Byte) : Runs s (rotateDigit m a u) :=
  ((((((h.memRead _).contend _ _ _).memWrite _ _).setA _).setF _).setMemptr _)

@[simp] theorem rrd_runs {s u : State} (h : Runs s u) : Runs s (rrd u) :=
  rotateDigit_runs h _ _

@[simp] theorem rld_runs {s u : State} (h : Runs s u) : Runs s (rld u) :=
  rotateDigit_runs h _ _

/-! ## Block instructions -/

@[simp] theorem repeatFrom_runs {s u : State} (h : Runs s u) (a : Word) : Runs s (repeatFrom a u) :=
  ((h.contend _ _ _).setPc _).setMemptr _

@[simp] theorem blockLd_runs {s u : State} (h : Runs s u) (dir : Dir) (rep : Bool) : Runs s (blockLd dir rep u) :=
  have w := (((((h.memRead (u.reg16 .hl)).setReg16 .bc (u.reg16 .bc - 1)).memWrite (u.reg16 .de) (u.peek (u.reg16 .hl))).contend
    (u.reg16 .de) 1 2).setReg16 .de (u.reg16 .de + dir.step)).setReg16 .hl (u.reg16 .hl + dir.step)
  (repeatFrom_runs (w.setF _) _).ite (w.setF _)

@[simp] theorem blockCp_runs {s u : State} (h : Runs s u) (dir : Dir) (rep : Bool) : Runs s (blockCp dir rep u) :=
  have w := (((h.memRead (u.reg16 .hl)).contend (u.reg16 .hl) 1 5).setReg16 .hl (u.reg16 .hl + dir.step)).setReg16 .bc
    (u.reg16 .bc - 1)
  (repeatFrom_runs (w.setF _) _).ite ((w.setF _).setMemptr _)

@[simp] theorem blockIn_runs {s u : State} (h : Runs s u) (dir : Dir) (rep : Bool) : Runs s (blockIn dir rep u) :=
  have w := (((((h.contend u.ir 1 1).portRead (u.reg16 .bc)).memWrite (u.reg16 .hl) (u.portByte (u.reg16 .bc))).setMemptr
    (u.reg16 .bc + dir.step)).setReg8 .b (u.regs.b - 1)).setReg16 .hl (u.reg16 .hl + dir.step)
  (repeatFrom_runs (w.setF _) _).ite (w.setF _)

@[simp] theorem blockOut_runs {s u : State} (h : Runs s u) (dir : Dir) (rep : Bool) : Runs s (blockOut dir rep u) :=
  have w := (((((h.contend u.ir 1 1).memRead (u.reg16 .hl)).setReg8 .b (u.regs.b - 1)).setMemptr
    (mkWord (u.regs.b - 1) u.regs.c + dir.step)).portWrite (mkWord (u.regs.b - 1) u.regs.c) (u.peek (u.reg16 .hl))).setReg16
    .hl (u.reg16 .hl + dir.step)
  (repeatFrom_runs (w.setF _) _).ite (w.setF _)

/-! ## Index instructions -/

@[simp] theorem incIdx_runs {s u : State} (h : Runs s u) (ii : Idx) : Runs s (incIdx ii u) :=
  modifyMem_runs (h.effectiveAddress _) _ _

@[simp] theorem decIdx_runs {s u : State} (h : Runs s u) (ii : Idx) : Runs s (decIdx ii u) :=
  modifyMem_runs (h.effectiveAddress _) _ _

@[simp] theorem stIdxImm_runs {s u : State} (h : Runs s u) (ii : Idx) : Runs s (stIdxImm ii u) :=
  (((h.imm8.operandRead.contend _ _ _).advance).setMemptr _).memWrite _ _

@[simp] theorem ldRegIdx_runs {s u : State} (h : Runs s u) (x : Reg8) (ii : Idx) : Runs s (ldRegIdx x ii u) :=
  ((h.effectiveAddress _).memRead _).setReg8 _ _

@[simp] theorem stIdxReg_runs {s u : State} (h : Runs s u) (x : Reg8) (ii : Idx) : Runs s (stIdxReg x ii u) :=
  (h.effectiveAddress _).memWrite _ _

@[simp] theorem aluIdx_runs {s u : State} (h : Runs s u) (op : AluOp) (ii : Idx) : Runs s (aluIdx op ii u) :=
  accumulate_runs ((h.effectiveAddress _).memRead _) _ _

@[simp] theorem writeIdx_runs {s u : State} (h : Runs s u) (ii : Idx) (o : AluOut) : Runs s (writeIdx ii o u) :=
  ((h.indexedCbOperand _).memWrite _ _).setF _

@[simp] theorem rotIdx_runs {s u : State} (h : Runs s u) (op : RotOp) (ii : Idx) : Runs s (rotIdx op ii u) :=
  writeIdx_runs h _ _

@[simp] theorem rotIdxReg_runs {s u : State} (h : Runs s u) (op : RotOp) (x : Reg8) (ii : Idx) : Runs s (rotIdxReg op x ii u) :=
  (rotIdx_runs h _ _).setReg8 _ _

@[simp] theorem bitIdx_runs {s u : State} (h : Runs s u) (b : Nat) (ii : Idx) : Runs s (bitIdx b ii u) :=
  (h.indexedCbOperand _).setF _

@[simp] theorem resIdx_runs {s u : State} (h : Runs s u) (b : Nat) (ii : Idx) : Runs s (resIdx b ii u) :=
  writeIdx_runs h _ _

@[simp] theorem resIdxReg_runs {s u : State} (h : Runs s u) (b : Nat) (x : Reg8) (ii : Idx) : Runs s (resIdxReg b x ii u) :=
  (resIdx_runs h _ _).setReg8 _ _

@[simp] theorem setIdx_runs {s u : State} (h : Runs s u) (b : Nat) (ii : Idx) : Runs s (setIdx b ii u) :=
  writeIdx_runs h _ _

@[simp] theorem setIdxReg_runs {s u : State} (h : Runs s u) (b : Nat) (x : Reg8) (ii : Idx) : Runs s (setIdxReg b x ii u) :=
  (setIdx_runs h _ _).setReg8 _ _

end Sys2Proof.Machine
end

