-- ==== Sys2Proof/Tests/Slice0.lean ====
section
/-! SUPPORT. Tests. Expected values are the spec's own examples, named at each test, or a word written out from its
encoding tables; `witness_*` are states and operands that meet the hypotheses of the statements. -/

open Sys2Proof Sys2Proof.Machine

namespace Sys2Proof.Tests

/-! ## Small machines -/

/-- Registers zero, `SP = FF00`, `PC = 8000`, the bytes at `8000`, uncontended: the start of 60_exceptions.md R522. -/
def machine (bytes : List Byte) (g : Regs → Regs := id) : State :=
  ({ State.reset with regs := g { Regs.filled 0 with sp := 0xFF00, pc := 0x8000 } } : State).load 0x8000 bytes

/-- With a byte at another address too. -/
def holding (s : State) (a : Word) (v : Byte) : State := s.load a [v]

/-- What one step leaves, seen through `f`. -/
def seen {α : Type} (s : State) (f : State → α) : Option α :=
  match step s with
  | .next t => some (f t)
  | .fault _ => none
  | .refused _ => none

/-! ## Well-formedness: an ill-formed term for each check -/

/-- `ED 44` is `NEG` (R358). -/
theorem test_wellFormed_nopEd : (Instr.nopEd 0x44).wellFormed = false := by decide
/-- `ED 4D` is `RETI` (R360). -/
theorem test_wellFormed_retn : (Instr.retn 1).wellFormed = false := by decide
/-- `y = 2` is `IM 1` (R361). -/
theorem test_wellFormed_im0 : (Instr.im0 2).wellFormed = false := by decide
/-- `y = 0` is `IM 0` (R361). -/
theorem test_wellFormed_im1 : (Instr.im1 0).wellFormed = false := by decide
/-- `y = 2` is `IM 1` (R361). -/
theorem test_wellFormed_im2 : (Instr.im2 2).wellFormed = false := by decide

/-! ## Decoding: words bit by bit, `xx yyy zzz` -/

/-- `LD D,E`: 01 010 011 (R182). -/
theorem test_decode_ldr : decode [0b01010011] = .ok .ldDE := by rfl
/-- `LD A,n`: 00 111 110, then n (R183). -/
theorem test_decode_ldimm : decode [0b00111110, 0b00000101] = .ok .ldAImm := by rfl
/-- `LD SP,nn`: 00 11 0 001, then the low byte (R193). -/
theorem test_decode_ldrr : decode [0b00110001, 0x34, 0x12] = .ok .ldSPImm16 := by rfl
/-- `PUSH AF`: 11 11 0 101 (R197). -/
theorem test_decode_push : decode [0b11110101] = .ok .pushAF := by rfl
/-- `EX DE,HL`: 11 101 011 (R201). -/
theorem test_decode_ex : decode [0b11101011] = .ok .exDEHL := by rfl
/-- `IN A,(n)`: 11 011 011 (R203). -/
theorem test_decode_in : decode [0b11011011, 0xFE] = .ok .inAAtImm := by rfl
/-- `SBC A,L`: 10 011 101 (R233). -/
theorem test_decode_alu : decode [0b10011101] = .ok .sbcAL := by rfl
/-- `DEC H`: 00 100 101 (R240). -/
theorem test_decode_inc : decode [0b00100101] = .ok .decH := by rfl
/-- `ADD HL,DE`: 00 01 1 001 (R244). -/
theorem test_decode_addhl : decode [0b00011001] = .ok .addHLDE := by rfl
/-- `DAA`: 00 100 111 (R249). -/
theorem test_decode_daa : decode [0b00100111] = .ok .daa := by rfl
/-- `JP PE,nn`: 11 101 010 (R282). -/
theorem test_decode_jp : decode [0b11101010, 0x34, 0x12] = .ok .jpPEImm16 := by rfl
/-- `JR NC,e`: 00 1 10 000 (R285). -/
theorem test_decode_jr : decode [0b00110000, 0xFE] = .ok .jrNCRel := by rfl
/-- `RST 28`: 11 101 111 (R291). -/
theorem test_decode_rst : decode [0b11101111] = .ok .rst28 := by rfl
/-- `HALT`: 01 110 110 (R292). -/
theorem test_decode_halt : decode [0b01110110] = .ok .halt := by rfl
/-- `SRA L`: CB, 00 101 101 (R336). -/
theorem test_decode_rot : decode [0xCB, 0b00101101] = .ok .sraL := by rfl
/-- `BIT 5,B`: CB, 01 101 000 (R339). -/
theorem test_decode_bit : decode [0xCB, 0b01101000] = .ok .bit5B := by rfl
/-- `SET 7,(HL)`: CB, 11 111 110 (R342). -/
theorem test_decode_set : decode [0xCB, 0b11111110] = .ok .set7AtHL := by rfl
/-- `SBC HL,SP`: ED, 01 11 0 010 (R354). -/
theorem test_decode_sbchl : decode [0xED, 0b01110010] = .ok .sbcHLSP := by rfl
/-- `LD DE,(nn)`: ED, 01 01 1 011 (R357). -/
theorem test_decode_ldnn : decode [0xED, 0b01011011, 0x00, 0x40] = .ok .ldDEAtAbs := by rfl
/-- `IM 2`: ED, 01 011 110 (R361). -/
theorem test_decode_im : decode [0xED, 0b01011110] = .ok (.im2 3) := by rfl
/-- `CPDR`: ED, 10 111 001 (R407). -/
theorem test_decode_block : decode [0xED, 0b10111001] = .ok .cpdr := by rfl
/-- the no-op `ED 77`: 01 110 111 (R368). -/
theorem test_decode_edNop : decode [0xED, 0b01110111] = .ok (.nopEd 0x77) := by rfl
/-- `LD IXH,IXL`: DD, 01 100 101 (R446). -/
theorem test_decode_half : decode [0xDD, 0b01100101] = .ok .ldIXHIXL := by rfl
/-- `LD (IY+d),L`: FD, 01 110 101, d (R445). -/
theorem test_decode_indexed : decode [0xFD, 0b01110101, 0x01] = .ok .ldAtIYdL := by rfl
/-- `SET 1,(IY+d)` copied to `E`: FD, CB, d, 11 001 011 (R497). -/
theorem test_decode_indexedCb : decode [0xFD, 0xCB, 0x03, 0b11001011] = .ok .ldESet1AtIYd := by rfl
/-- `LD B,C` behind DD: 01 000 001 (R454). -/
theorem test_decode_noEffect : decode [0xDD, 0b01000001] = .ok (.ldBCPfx .ix) := by rfl
/-- a prefix in front of another: its own row (R455). -/
theorem test_decode_prefix : decode [0xDD, 0xFD, 0x21, 0x34] = .ok (.prefixFDChain .ix) := by rfl
/-- Bytes that end inside the instruction. -/
theorem test_decode_truncated : decode [0xC3, 0x34] = .error .truncated := by rfl
/-- A table word: the second byte in bits 15 to 8, an operand left out. -/
theorem test_decodeTableWord : decodeTableWord 16 0x66DD = some .ldHAtIXd ∧ decodeTableWord 8 0xC3 = some .jpImm16 := by
  decide

/-! ## Every constructor's word, as `encode` writes it out, decodes to it: the opcode maps quadrant by quadrant -/

/-- What the words of a quadrant decode to, with two operand bytes. -/
def readBack (q : List (List Instr)) : List (Except DecodeError Instr) :=
  q.flatten.map fun i => decode (encode i 0x12 0x34)

theorem test_words_baseX0 : readBack baseX0 = baseX0.flatten.map .ok := by rfl
theorem test_words_baseX1 : readBack baseX1 = baseX1.flatten.map .ok := by rfl
theorem test_words_baseX2 : readBack baseX2 = baseX2.flatten.map .ok := by rfl
theorem test_words_baseX3 : readBack baseX3 = baseX3.flatten.map .ok := by rfl
theorem test_words_cbX0 : readBack cbX0 = cbX0.flatten.map .ok := by rfl
theorem test_words_cbX1 : readBack cbX1 = cbX1.flatten.map .ok := by rfl
theorem test_words_cbX2 : readBack cbX2 = cbX2.flatten.map .ok := by rfl
theorem test_words_cbX3 : readBack cbX3 = cbX3.flatten.map .ok := by rfl
theorem test_words_edX0 : readBack edX0 = edX0.flatten.map .ok := by rfl
theorem test_words_edX1 : readBack edX1 = edX1.flatten.map .ok := by rfl
theorem test_words_edX2 : readBack edX2 = edX2.flatten.map .ok := by rfl
theorem test_words_edX3 : readBack edX3 = edX3.flatten.map .ok := by rfl
theorem test_words_ddX0 : readBack ddX0 = ddX0.flatten.map .ok := by rfl
theorem test_words_ddX1 : readBack ddX1 = ddX1.flatten.map .ok := by rfl
theorem test_words_ddX2 : readBack ddX2 = ddX2.flatten.map .ok := by rfl
theorem test_words_ddX3 : readBack ddX3 = ddX3.flatten.map .ok := by rfl
theorem test_words_fdX0 : readBack fdX0 = fdX0.flatten.map .ok := by rfl
theorem test_words_fdX1 : readBack fdX1 = fdX1.flatten.map .ok := by rfl
theorem test_words_fdX2 : readBack fdX2 = fdX2.flatten.map .ok := by rfl
theorem test_words_fdX3 : readBack fdX3 = fdX3.flatten.map .ok := by rfl
theorem test_words_ddcbX0 : readBack ddcbX0 = ddcbX0.flatten.map .ok := by rfl
theorem test_words_ddcbX1 : readBack ddcbX1 = ddcbX1.flatten.map .ok := by rfl
theorem test_words_ddcbX2 : readBack ddcbX2 = ddcbX2.flatten.map .ok := by rfl
theorem test_words_ddcbX3 : readBack ddcbX3 = ddcbX3.flatten.map .ok := by rfl
theorem test_words_fdcbX0 : readBack fdcbX0 = fdcbX0.flatten.map .ok := by rfl
theorem test_words_fdcbX1 : readBack fdcbX1 = fdcbX1.flatten.map .ok := by rfl
theorem test_words_fdcbX2 : readBack fdcbX2 = fdcbX2.flatten.map .ok := by rfl
theorem test_words_fdcbX3 : readBack fdcbX3 = fdcbX3.flatten.map .ok := by rfl

/-! ## One step: the spec's examples -/

/-- R183, the document's own example. -/
theorem test_step_ldImm :
    seen (machine [0x3E, 0x05])
      (fun t => (t.regs.a, t.regs.pc, t.cycles)) =
        some (0x05, 0x8002, 7) := by decide
/-- R191: no carry into the high byte of `MEMPTR`. -/
theorem test_step_ldAtDE :
    seen (machine [0x12] fun g => { g with a := 0x34, d := 0x70, e := 0xFF })
      (fun t => (t.peek 0x70FF, t.regs.memptr)) =
        some (0x34, 0x3400) := by decide
/-- R197. -/
theorem test_step_push :
    seen (machine [0xC5] fun g => { g with b := 0x12, c := 0x34, sp := 0x9000 })
      (fun t => (t.regs.sp, t.peek 0x8FFF, t.peek 0x8FFE, t.cycles)) =
        some (0x8FFE, 0x12, 0x34, 11) := by decide
/-- R202. -/
theorem test_step_exSp :
    seen (holding (holding (machine [0xE3] fun g => { g with h := 0x12, l := 0x34, sp := 0x9000 }) 0x9000 0x78) 0x9001 0x56)
      (fun t => (t.reg16 .hl, t.peek 0x9000, t.peek 0x9001, t.regs.memptr, t.cycles)) =
        some (0x5678, 0x34, 0x12, 0x5678, 19) := by decide
/-- R200. -/
theorem test_step_exx :
    seen ({ machine [0xD9] (fun g => { g with c := 0x01 }) with shadow := Shadow.filled 0x1111 })
      (fun t => (t.reg16 .bc, t.shadow.c)) =
        some (0x1111, 0x01) := by decide
/-- R203. -/
theorem test_step_inA :
    seen ({ machine [0xDB, 0x34] (fun g => { g with a := 0x12 }) with portAnswers := [0xFF] })
      (fun t => (t.regs.a, t.regs.memptr, t.cycles)) =
        some (0xFF, 0x1235, 11) := by decide
/-- R204. -/
theorem test_step_outA :
    seen (machine [0xD3, 0xFF] fun g => { g with a := 0x12 })
      (fun t => (t.bus.head?, t.regs.memptr)) =
        some (some (.portWrite 0x12FF 0x12 11), 0x1200) := by decide
/-- R230. -/
theorem test_step_add :
    seen (machine [0xC6, 0x01] fun g => { g with a := 0x7F })
      (fun t => (t.regs.a, t.regs.f)) =
        some (0x80, 0x94) := by decide
/-- R233: `SBC A,A` with the carry set. -/
theorem test_step_sbc :
    seen (machine [0x9F] fun g => { g with a := 0x5A, f := 0x01 })
      (fun t => (t.regs.a, t.regs.f)) =
        some (0xFF, 0xBB) := by decide
/-- R237: bits 5 and 3 of the operand. -/
theorem test_step_cp :
    seen (machine [0xFE, 0x28] fun g => { g with a := 0x40 })
      (fun t => (t.regs.a, t.regs.f)) =
        some (0x40, 0x3A) := by decide
/-- R239. -/
theorem test_step_incAtHL :
    seen (holding (machine [0x34] fun g => { g with h := 0x40, f := 0x01 }) 0x4000 0x0F)
      (fun t => (t.peek 0x4000, t.regs.f, t.cycles)) =
        some (0x10, 0x11, 11) := by decide
/-- R244. -/
theorem test_step_addHL :
    seen (machine [0x09] fun g => { g with h := 0x0F, l := 0xFF, c := 0x01, f := 0xC4 })
      (fun t => (t.reg16 .hl, t.regs.f, t.regs.memptr)) =
        some (0x1000, 0xD4, 0x1000) := by decide
/-- R246. -/
theorem test_step_rrca :
    seen (machine [0x0F] fun g => { g with a := 0x81, f := 0xFF })
      (fun t => (t.regs.a, t.regs.f)) =
        some (0xC0, 0xC5) := by decide
/-- R249. -/
theorem test_step_daa :
    seen (machine [0x27] fun g => { g with a := 0x00, f := 0x13 })
      (fun t => (t.regs.a, t.regs.f)) =
        some (0x9A, 0x9F) := by decide
/-- R252. -/
theorem test_step_ccf :
    seen (machine [0x3F] fun g => { g with a := 0x28, f := 0x10 })
      (fun t => t.regs.f) =
        some 0x29 := by decide
/-- R284: the target wraps. -/
theorem test_step_jr :
    seen (({ machine [] with regs := { Regs.filled 0 with pc := 0xFFF0 } } : State).load 0xFFF0 [0x18, 0x7F])
      (fun t => (t.regs.pc, t.cycles)) =
        some (0x0071, 12) := by decide
/-- R286: the last pass. -/
theorem test_step_djnz :
    seen (machine [0x10, 0xFE] fun g => { g with b := 0x01 })
      (fun t => (t.regs.b, t.regs.pc, t.cycles)) =
        some (0x00, 0x8002, 8) := by decide
/-- R288: taken. -/
theorem test_step_callCC :
    seen (machine [0xDC, 0x34, 0x12] fun g => { g with f := 0x01 })
      (fun t => (t.regs.pc, t.regs.sp, t.peek 0xFEFF, t.peek 0xFEFE, t.cycles)) =
        some (0x1234, 0xFEFE, 0x80, 0x03, 17) := by decide
/-- R292. -/
theorem test_step_halt :
    seen (machine [0x76])
      (fun t => (t.ctl.halted, t.regs.pc, t.cycles)) =
        some (true, 0x8000, 4) := by decide
/-- R294. -/
theorem test_step_ei :
    seen (machine [0xFB])
      (fun t => (t.ctl.iff1, t.ctl.iff2, t.ctl.eiJustExecuted)) =
        some (true, true, true) := by decide
/-- R333. -/
theorem test_step_rl :
    seen (machine [0xCB, 0x12] fun g => { g with d := 0x80, f := 0x01 })
      (fun t => (t.regs.d, t.regs.f)) =
        some (0x01, 0x01) := by decide
/-- R340: bits 5 and 3 of `MEMPTR`. -/
theorem test_step_bitAtHL :
    seen (holding (machine [0xCB, 0x46] fun g => { g with h := 0x40, memptr := 0x28FF, f := 0x01 }) 0x4000 0x01)
      (fun t => (t.regs.f, t.cycles)) =
        some (0x39, 12) := by decide
/-- R350. -/
theorem test_step_inC :
    seen ({ machine [0xED, 0x50] (fun g => { g with b := 0x12, c := 0xFE, f := 0x01 }) with portAnswers := [0xFF] })
      (fun t => (t.regs.d, t.regs.f, t.regs.memptr)) =
        some (0xFF, 0xAD, 0x12FF) := by decide
/-- R354. -/
theorem test_step_sbcHL :
    seen (machine [0xED, 0x52] fun g => { g with h := 0x80, e := 0x01 })
      (fun t => (t.reg16 .hl, t.regs.f)) =
        some (0x7FFF, 0x3E) := by decide
/-- R356: across the top of memory. -/
theorem test_step_ldAbsSP :
    seen (machine [0xED, 0x73, 0xFF, 0xFF])
      (fun t => (t.peek 0xFFFF, t.peek 0x0000, t.regs.memptr)) =
        some (0x00, 0xFF, 0x0000) := by decide
/-- R361. -/
theorem test_step_im :
    seen (machine [0xED, 0x6E])
      (fun t => t.ctl.interruptMode) =
        some .im0 := by decide
/-- R365: its own two fetches count. -/
theorem test_step_ldAR :
    seen (machine [0xED, 0x5F] fun g => { g with r := 0x7E, f := 0x01 })
      (fun t => (t.regs.a, t.regs.f)) =
        some (0x00, 0x41) := by decide
/-- R366. -/
theorem test_step_rrd :
    seen (holding (machine [0xED, 0x67] fun g => { g with a := 0x84, h := 0x50, f := 0x01 }) 0x5000 0x20)
      (fun t => (t.regs.a, t.peek 0x5000, t.regs.f)) =
        some (0x80, 0x42, 0x81) := by decide
/-- R402, step 1. -/
theorem test_step_ldir :
    seen (holding (machine [0xED, 0xB0] fun g => { g with h := 0x40, d := 0x50, c := 0x03 }) 0x4000 0x11)
      (fun t => (t.reg16 .bc, t.regs.pc, t.regs.memptr, t.regs.f, t.cycles)) =
        some (0x0002, 0x8000, 0x8001, 0x04, 21) := by decide
/-- R405. -/
theorem test_step_cpd :
    seen (holding (machine [0xED, 0xA9] fun g => { g with h := 0x40, c := 0x02, memptr := 0x1000 }) 0x4000 0x01)
      (fun t => (t.reg16 .hl, t.regs.f, t.regs.memptr)) =
        some (0x3FFF, 0xBE, 0x0FFF) := by decide
/-- R408. -/
theorem test_step_ini :
    seen ({ machine [0xED, 0xA2] (fun g => { g with h := 0x40, b := 0x02, c := 0xFE }) with portAnswers := [0x7B] })
      (fun t => (t.peek 0x4000, t.reg16 .bc, t.regs.memptr, t.regs.f)) =
        some (0x7B, 0x01FE, 0x02FF, 0x15) := by decide
/-- R413. -/
theorem test_step_outd :
    seen (holding (machine [0xED, 0xAB] fun g => { g with h := 0x40, b := 0x80, c := 0xFE }) 0x4000 0xFF)
      (fun t => (t.bus.head?, t.regs.memptr, t.regs.f)) =
        some (some (.portWrite 0x7FFE 0xFF 16), 0x7FFD, 0x3B) := by decide
/-- R443: a negative displacement. -/
theorem test_step_ldIXdImm :
    seen (machine [0xDD, 0x36, 0xFE, 0x5A] fun g => { g with ixh := 0x40 })
      (fun t => (t.peek 0x3FFE, t.regs.memptr, t.regs.pc, t.cycles)) =
        some (0x5A, 0x3FFE, 0x8004, 19) := by decide
/-- R447. -/
theorem test_step_addIXH :
    seen (machine [0xDD, 0x84] fun g => { g with a := 0x10, ixh := 0x20, ixl := 0x05 })
      (fun t => (t.regs.a, t.regs.f)) =
        some (0x30, 0x20) := by decide
/-- R454: an ED instruction behind a prefix. -/
theorem test_step_prefixed :
    seen (machine [0xDD, 0xED, 0x4A] fun g => { g with h := 0x10, ixh := 0x20, c := 0x01 })
      (fun t => (t.reg16 .hl, t.reg16 .ix, t.cycles, t.regs.r)) =
        some (0x1001, 0x2000, 19, 3) := by decide
/-- R455: the last prefix decides. -/
theorem test_step_chain :
    seen (machine [0xDD, 0xFD, 0x21, 0x34, 0x12])
      (fun t => (t.reg16 .iy, t.reg16 .ix, t.regs.pc, t.cycles, t.regs.r)) =
        some (0x1234, 0x0000, 0x8005, 18, 3) := by decide
/-- R492: stored and copied to `H`. -/
theorem test_step_sllCopy :
    seen (holding (machine [0xDD, 0xCB, 0x00, 0x34] fun g => { g with ixh := 0x40, h := 0x12, l := 0x34 }) 0x4000 0x80)
      (fun t => (t.peek 0x4000, t.reg16 .hl, t.regs.f, t.cycles, t.regs.r)) =
        some (0x01, 0x0134, 0x01, 23, 2) := by decide
/-- R522.2: the vector across the top of memory. -/
theorem test_step_mode2 :
    seen ((holding (holding (machine [] fun g => { g with i := 0xFF }) 0xFFFF 0x78) 0x0000 0x56).setCtl
        { Control.afterReset with iff1 := true, iff2 := true, interruptMode := .im2, interruptPending := true })
      (fun t => (t.regs.pc, t.regs.memptr, t.ctl.iff1, t.ctl.iff2, t.cycles)) =
        some (0x5678, 0x5678, false, false, 19) := by decide
/-- R522.6. -/
theorem test_step_nmi :
    seen ((machine []).setCtl { Control.afterReset with iff1 := true, iff2 := true, nmiPending := true })
      (fun t => ((t.regs.pc, t.peek 0xFEFF, t.peek 0xFEFE), t.ctl.iff1, t.ctl.iff2, t.regs.r, t.cycles)) =
        some ((0x0066, 0x80, 0x00), false, true, 1, 11) := by decide
/-- R522.5, step 3: the halt opcode is skipped over. -/
theorem test_step_haltedInt :
    seen ((machine [0x76]).setCtl { Control.afterReset with
        iff1 := true, iff2 := true, interruptMode := .im1, interruptPending := true, halted := true })
      (fun t => (t.ctl.halted, t.peek 0xFEFF, t.peek 0xFEFE, t.regs.pc, t.cycles)) =
        some (false, 0x80, 0x01, 0x0038, 13) := by decide
/-- The default of P2 is 0 at every counter value. -/
theorem test_defaultContention :
    seen ({ machine [0x00] with platform := { Platform.default with contended := [⟨0x8000, 0x8000⟩] } } : State)
      (fun t => t.cycles) = some 4 := by decide
/-- R66: each unit is looked up at the counter it is entered with. -/
theorem test_contended :
    seen ({ machine [0x00] with
        platform := { Platform.default with contended := [⟨0x8000, 0x8000⟩], contentionTable := [6, 5, 4] } } : State)
      (fun t => t.cycles) = some 10 := by decide
/-- P3, R64: a store that the platform ignores. -/
theorem test_readOnly :
    seen ({ machine [0x70] (fun g => { g with h := 0x40, b := 0x99 }) with
        platform := { Platform.default with readOnly := [⟨0x4000, 0x4000⟩] } } : State)
      (fun t => (t.peek 0x4000, t.bus.head?)) = some (0x00, some (.memWrite 0x4000 0x99 7)) := by decide
/-- A word placed by the host runs as the first instruction after reset, and halting it is only a state. -/
theorem test_withFetchWord :
    seen (State.reset.withFetchWord 16 0x66DD) (fun t => (t.regs.pc, t.regs.ixh)) = some (0x0003, 0xFF) := by decide

/-! ## Witnesses: states and operands that meet the hypotheses of the statements -/
/-- The register numbers at both ends; the same serve every statement with `r8`. -/
theorem witness_registers :
    r8 0 = some .b ∧ r8 7 = some .a ∧ r8x .ix 4 = some .ixh ∧ r8x .iy 5 = some .iyl ∧ r8x .ix 7 = some .a := by decide

theorem witness_LoadsOfOneRegister :
    r8 0 = some .b ∧ r8 7 = some .a ∧ (0 < 2 ∧ rp 0 = .bc) ∧ (1 < 2 ∧ rp 1 = .de) := by decide
theorem witness_StoresOfOneByte :
    r8 0 = some .b ∧ r8 7 = some .a := by decide
theorem witness_LoadsOfAPair :
    (0 < 4 ∧ rp 0 = .bc) ∧ (3 < 4 ∧ rp 3 = .sp) := by decide
theorem witness_PushAndPop :
    (0 < 4 ∧ rp2 0 = .bc) ∧ (3 < 4 ∧ rp2 3 = .af) := by decide
theorem witness_AccumulatorOperations :
    (0 < 8 ∧ aluOf 0 = .add ∧ r8 0 = some .b) ∧ (7 < 8 ∧ aluOf 7 = .cp ∧ r8 7 = some .a) := by decide
theorem witness_IncrementAndDecrement :
    r8 0 = some .b ∧ r8 7 = some .a := by decide
theorem witness_PairArithmetic :
    (0 < 4 ∧ rp 0 = .bc) ∧ (3 < 4 ∧ rp 3 = .sp) := by decide
theorem witness_Jumps :
    (0 < 8 ∧ ccOf 0 = .nz) ∧ (7 < 8 ∧ ccOf 7 = .m) ∧ (0 < 4 ∧ opcode 0 4 0 = 0x20) ∧ (3 < 4 ∧ opcode 0 7 0 = 0x38) := by decide
theorem witness_CallsAndReturns :
    (0 < 8 ∧ opcode 3 0 4 = 0xC4) ∧ (7 < 8 ∧ opcode 3 7 4 = 0xFC) := by decide
theorem witness_InterruptFlipFlops :
    (0 < 8 ∧ edTable (opcode 1 0 5) = .retn 0) ∧ (7 < 8 ∧ edTable (opcode 1 7 5) = .retn 7) := by decide
theorem witness_BitOperationsOnRegisters :
    (0 < 8 ∧ r8 0 = some .b ∧ rotOf 0 = .rlc) ∧ (7 < 8 ∧ r8 7 = some .a ∧ rotOf 7 = .srl) := by decide
theorem witness_BitOperationsOnMemory :
    (0 < 8 ∧ cbTable (opcode 1 0 6) = .bit0AtHL) ∧ (7 < 8 ∧ cbTable (opcode 3 7 6) = .set7AtHL) := by decide
theorem witness_BitFunctionsBitByBit :
    (0 < 8 ∧ (0 = 0 ∨ 0 = 2 ∨ 0 = 4 ∨ 0 = 6)) ∧ (7 < 8 ∧ ¬(7 = 0 ∨ 7 = 2 ∨ 7 = 4 ∨ 7 = 6)) ∧ (0 < 7 ∧ 6 < 7) := by decide
theorem witness_PortsThroughBC :
    r8 0 = some .b ∧ r8 7 = some .a := by decide
theorem witness_DecidedEdEncodings :
    (0 < 8 ∧ 7 < 8) ∧ edTable (opcode 0 0 0) = .nopEd 0x00 ∧ edTable (opcode 3 7 7) = .nopEd 0xFF ∧
      edTable (opcode 1 6 7) = .nopEd 0x77 ∧ edTable (opcode 2 3 7) = .nopEd 0x9F ∧ edTable (opcode 2 7 4) = .nopEd 0xBC := by
  refine ⟨⟨by decide, by decide⟩, rfl, rfl, rfl, rfl, rfl⟩
theorem witness_EdPairLoadsAndNegate :
    (0 < 4 ∧ rp 0 = .bc) ∧ (3 < 4 ∧ rp 3 = .sp) ∧ (0 < 8 ∧ 7 < 8) := by decide
theorem witness_BlockTransfer :
    (4 ≤ 4 ∧ 4 < 8 ∧ blockDir 4 = .up) ∧ (4 ≤ 7 ∧ 7 < 8 ∧ blockDir 7 = .down) := by decide
theorem witness_BlockCompare :
    (4 ≤ 4 ∧ 4 < 8 ∧ blockDir 4 = .up) ∧ (4 ≤ 7 ∧ 7 < 8 ∧ blockDir 7 = .down) := by decide
theorem witness_BlockInputAndOutput :
    (4 = 4 ∨ 4 = 5) ∧ (5 = 4 ∨ 5 = 5) := by decide
theorem witness_RepeatedBlockInputAndOutput :
    (6 = 6 ∨ 6 = 7) ∧ (7 = 6 ∨ 7 = 7) := by decide
theorem witness_IndexRegisterForms :
    (0 < 4 ∧ rpx .ix 0 = .bc) ∧ (2 < 4 ∧ rpx .iy 2 = .iy) ∧ (3 < 4 ∧ rpx .ix 3 = .sp) := by decide
theorem witness_IndexHalfForms :
    r8x .ix 4 = some .ixh ∧ r8x .iy 5 = some .iyl ∧ (0 < 8 ∧ 7 < 8) ∧ (r8x .ix 0 = some .b ∧ r8x .ix 4 = some .ixh) := by decide
theorem witness_IndexedMemoryForms :
    r8 0 = some .b ∧ r8 7 = some .a ∧ 0 < 8 ∧ 7 < 8 := by decide
theorem witness_PrefixesWithoutEffect :
    inIndexLists 0 0 0 = false ∧ opcode 0 0 0 ∉ [0xCB, 0xDD, 0xED, 0xFD] ∧
      inIndexLists 3 7 7 = false ∧ opcode 3 7 7 ∉ [0xCB, 0xDD, 0xED, 0xFD] ∧ inIndexLists 1 6 6 = false := by decide
theorem witness_IndexedBitOperations :
    (0 < 8 ∧ r8 0 = some .b) ∧ (7 < 8 ∧ r8 7 = some .a) := by decide
theorem witness_DecimalAdjustIsDecimal :
    (0 < 100 ∧ 99 < 100) ∧ (daaOut (add8 0x99 0x99 true).res (add8 0x99 0x99 true).flags).res = 0x99 := by decide
theorem witness_DecodeOfEncode :
    Instr.nop.wellFormed = true ∧ (Instr.retn 7).wellFormed = true ∧ (Instr.nopEd 0xFF).wellFormed = true := by decide
theorem witness_TimedReadAndStore :
    (machine [0x3E]).mem.wf = true ∧ (machine [0x3E]).platform.isReadOnly 0xFFFF = false := by decide
theorem witness_MemoryIsCanonical :
    Memory.wf [] = true ∧ Memory.wf [(0, 1), (65535, 2)] = true ∧ Memory.wf [(0, 0)] = false := by decide
theorem witness_Contention :
    State.reset.platform.isContended 0x4000 = false ∧
      ({ Platform.default with contended := [⟨0x4000, 0x7FFF⟩] } : Platform).isContended 0x7FFF = true := by decide
/-- An instruction, a prefix, and a request held off by the EI shadow. -/
theorem witness_StepRunsTheDecodedInstruction :
    let s := (machine [0x00]).setCtl { Control.afterReset with
      interruptPending := true, iff1 := true, eiJustExecuted := true }
    let at4 := fun u : State => decode [u.codeByte 0, u.codeByte 1, u.codeByte 2, u.codeByte 3]
    s.counterOk = true ∧ s.ctl.nmiPending = false ∧ s.ctl.halted = false ∧
      (s.ctl.interruptPending = true → s.ctl.iff1 = true → s.ctl.eiJustExecuted = true) ∧
      at4 s = .ok .nop ∧ at4 (machine [0xDD, 0xFD, 0x00]) = .ok (.prefixFDChain .ix) := by
  refine ⟨by decide, rfl, rfl, fun _ _ => rfl, rfl, rfl⟩
/-- Halted in mode 2, and running in mode 0. -/
theorem witness_MaskableAcceptance :
    let s := (machine [0x76]).setCtl { Control.afterReset with
      interruptPending := true, iff1 := true, halted := true, interruptMode := .im2 }
    let u := (machine [0x00]).setCtl { Control.afterReset with interruptPending := true, iff1 := true }
    (s.counterOk = true ∧ s.ctl.nmiPending = false ∧ s.ctl.interruptPending = true ∧ s.ctl.iff1 = true ∧
      s.ctl.eiJustExecuted = false) ∧
    (u.counterOk = true ∧ u.ctl.nmiPending = false ∧ u.ctl.interruptPending = true ∧ u.ctl.iff1 = true ∧
      u.ctl.eiJustExecuted = false) ∧ seen s (fun _ => ()) = some () := by decide
/-- Both requests at once, in the EI shadow. -/
theorem witness_NonMaskableAcceptance :
    let s := (machine [0x76]).setCtl { Control.afterReset with
      interruptPending := true, nmiPending := true, iff1 := true, eiJustExecuted := true, halted := true }
    s.counterOk = true ∧ s.ctl.nmiPending = true ∧ seen s (fun t => t.regs.pc) = some 0x0066 := by decide
/-- `NOP` in the shadow; afterwards the request is taken. -/
theorem witness_EiShadow :
    let s := (machine [0x00]).setCtl { Control.afterReset with
      interruptPending := true, iff1 := true, eiJustExecuted := true }
    s.ctl.nmiPending = false ∧ s.ctl.interruptPending = true ∧ s.ctl.eiJustExecuted = true ∧ s.ctl.halted = false ∧
      seen s (fun t => (t.ctl.iff1, t.ctl.eiJustExecuted)) = some (true, false) := by decide
/-- Halted, with a request that `iff1` masks. -/
theorem witness_HaltedStep :
    let s := (machine [0x76]).setCtl { Control.afterReset with interruptPending := true, halted := true }
    s.counterOk = true ∧ s.ctl.nmiPending = false ∧ s.ctl.halted = true ∧
      (s.ctl.interruptPending = true → s.ctl.iff1 = true → s.ctl.eiJustExecuted = true) := by decide
/-- Both ends of the range, and a step that completes. -/
theorem witness_CounterPrecondition :
    ((-1 : Int) < 0 ∧ (2 : Int) ^ 63 ≤ 9223372036854775808) ∧ seen (machine [0x00]) (fun t => t.cycles) = some 4 := by
  decide
theorem witness_StepCompletes :
    let s := machine [0x00]
    s.Uncontended ∧ 0 ≤ s.cycles ∧
      s.cycles + 4 * 65536 + 64 + s.platform.intAckTStates + s.platform.nmiAckTStates < 2 ^ 63 ∧
      (∃ a : Word, s.peek a ≠ 0xDD ∧ s.peek a ≠ 0xFD) := by
  refine ⟨⟨rfl, rfl⟩, by decide, by decide, 0x8000, by decide, by decide⟩
theorem witness_StepKeepsTheInvariant :
    (machine [0x00]).Inv ∧ seen (machine [0x00]) (fun t => t.regs.pc) = some 0x8001 := by
  refine ⟨⟨by decide, by decide⟩, by decide⟩
/-- With an access in the trace. -/
theorem witness_StepKeepsTheTraceOrdered :
    let s : State := { machine [0x00] with bus := [.memRead 0x4000 0x00 3], cycles := 3 }
    s.TraceOrdered ∧ seen s (fun t => t.cycles) = some 7 := by
  refine ⟨⟨by simp, by simp [BusEvent.time]⟩, by decide⟩
theorem witness_ShadowBankIsInert :
    Instr.nop ∉ [baseTable 0x08, ddTable 0x08, fdTable 0x08, baseTable 0xD9, ddTable 0xD9, fdTable 0xD9] := by decide
theorem witness_IndexRegistersNeedAPrefix :
    baseTable 0x21 ∈ [baseTable 0x21, cbTable 0x21, edTable 0x21] ∧
      edTable 0x6A ∈ [baseTable 0x6A, cbTable 0x6A, edTable 0x6A] := by decide
/-- The two neighbours of the excluded instructions, and block compare, which does read `MEMPTR`. -/
theorem witness_MemptrIsSeenByBitAtHLAlone :
    (∀ b, b < 8 → cbTable (opcode 1 0 7) ≠ cbTable (opcode 1 b 6)) ∧ (∀ b, b < 8 → Instr.cpi ≠ cbTable (opcode 1 b 6)) := by
  decide
theorem witness_ControlCellWriters :
    Instr.nop.wellFormed = true ∧ (∃ t, exec .nop (machine [0x00]) = .next t) ∧
      (Instr.nop ∉ [baseTable 0xFB, ddTable 0xFB, fdTable 0xFB]) ∧ (Instr.nop ∉ [baseTable 0xF3, ddTable 0xF3, fdTable 0xF3]) ∧
      (∀ y, y < 8 → Instr.nop ≠ edTable (opcode 1 y 5)) ∧ (∀ y, y < 8 → Instr.nop ≠ edTable (opcode 1 y 6)) ∧
      (Instr.nop ∉ [baseTable 0x76, ddTable 0x76, fdTable 0x76]) ∧ Instr.nop ≠ edTable 0x47 ∧ Instr.nop ≠ edTable 0x4F := by
  refine ⟨rfl, ⟨_, rfl⟩, by decide, by decide, by decide, by decide, by decide, by decide, by decide⟩
theorem witness_HostCalls : HostPair.bc ≠ HostPair.af ∧ 2 < 3 := by decide

end Sys2Proof.Tests
end

/-! # Proofs: memory and time (20_memory.md R63, R64, R66) -/

section
open Sys2Proof Sys2Proof.Machine

namespace Sys2Proof.Proofs.MemoryAndTime

/-! ## The timed read and the timed store -/

/-- R63: a timed read is its time and its record. -/
theorem memRead_eq (s : State) (a : Word) :
    s.memRead a = { s with
      cycles := s.platform.afterContend a 3 1 s.cycles
      bus := .memRead a (s.peek a) (s.platform.afterContend a 3 1 s.cycles) :: s.bus } := rfl

/-- R64: beside memory, a timed store is its time and its record. -/
theorem memWrite_eq (s : State) (a : Word) (v : Byte) :
    s.memWrite a v = { s with
      cycles := s.platform.afterContend a 3 1 s.cycles
      bus := .memWrite a v (s.platform.afterContend a 3 1 s.cycles) :: s.bus
      mem := (s.memWrite a v).mem } := rfl

/-- A timed store from a canonical memory leaves a canonical one, and stores its one byte where the platform lets
it. -/
theorem memWrite_stores {s : State} (w : s.mem.wf = true) (a : Word) (v : Byte) :
    (s.memWrite a v).mem.wf = true ∧ s.Stores (s.memWrite a v) [(a, v)] :=
  ((State.Made.refl s).memWrite1 a v rfl).mem w

/-- Settles O41: the time and the record are the definitions' own, and the byte stored is the one bus cycle of a store
made from `s`. -/
theorem timedReadAndStore : Obligations.TimedReadAndStore := fun s a v =>
  ⟨memRead_eq s a, memWrite_eq s a v, fun w => memWrite_stores w a v⟩

/-! ## Contention -/

section
variable {p : Platform} {a : Word}

/-- An access that is not contended takes its own T-states. -/
theorem afterContend_of_uncontended (h : p.isContended a = false) (d n : Nat) (c : Int) :
    p.afterContend a d n c = c + d * n := by
  simp [Platform.afterContend, h]

/-- A contended access goes unit by unit through the table. -/
theorem afterContend_of_contended (h : p.isContended a = true) (d n : Nat) (c : Int) :
    p.afterContend a d n c = p.contendedUnits d n c := by
  simp [Platform.afterContend, h]

/-- A contended access of no units takes no time. -/
theorem afterContend_zero (h : p.isContended a = true) (d : Nat) (c : Int) : p.afterContend a d 0 c = c :=
  afterContend_of_contended h d 0 c

/-- The first contended unit takes the table's wait states at the counter it is entered with, and the delay; the
others follow from the counter it leaves. -/
theorem afterContend_succ (h : p.isContended a = true) (d n : Nat) (c : Int) :
    p.afterContend a d (n + 1) c = p.afterContend a d n (c + p.waitStates c + d) := by
  rw [afterContend_of_contended h, afterContend_of_contended h]
  rfl

end

/-- R66: `Contend` sets the counter to the platform's answer and nothing else. -/
theorem contend_eq (s : State) (a : Word) (d n : Nat) :
    s.contend a d n = { s with cycles := s.platform.afterContend a d n s.cycles } := rfl

/-- Settles O43, from what `afterContend` gives at an uncontended address, and at a contended one for no unit and for
one unit more. -/
theorem contention : Obligations.Contention := by
  intro s a d n
  refine ⟨contend_eq s a d n, fun h => ?uncontended, fun h => ⟨?noUnit, ?oneMore⟩⟩
  case uncontended => rw [State.contend_cycles, afterContend_of_uncontended h]
  case noUnit => rw [contend_eq, afterContend_zero h]
  case oneMore => rw [contend_eq, contend_eq, afterContend_succ h]

end Sys2Proof.Proofs.MemoryAndTime
end

/-! # Proofs: the flag functions (40_alu_tables.md R149 to R153, R157 to R166)

Every piece of a flag byte is a `flagsOf` with the other bits clear, and `flagsOf` turns `|||` into `||` bit by bit
(`flagsOf_or`). So a flag function is spelt as `flagsOf` by rewriting its pieces. -/

section
open Sys2Proof Sys2Proof.Machine

namespace Sys2Proof.Proofs.FlagFunctions

/-! ## Masked bits -/

@[simp] theorem maskIf_true (m : Byte) : maskIf true m = m := rfl

@[simp] theorem maskIf_false (m : Byte) : maskIf false m = 0 := rfl

theorem maskIf_getLsbD (b : Bool) (m : Byte) (k : Nat) : (maskIf b m).getLsbD k = (b && m.getLsbD k) := by
  cases b <;> simp

theorem maskIf_or (b c : Bool) (m : Byte) : maskIf (b || c) m = maskIf b m ||| maskIf c m := by
  cases b <;> cases c <;> simp

/-- Masking a byte with one bit gives that bit at its place. -/
theorem and_twoPow (v : Byte) (i : Nat) : v &&& .twoPow 8 i = maskIf (v.getLsbD i) (.twoPow 8 i) :=
  BitVec.and_twoPow v i

/-! ## The pieces of a flag byte -/

theorem flagsOf_or (s z b5 h b3 pv n c s' z' b5' h' b3' pv' n' c' : Bool) :
    flagsOf s z b5 h b3 pv n c ||| flagsOf s' z' b5' h' b3' pv' n' c' =
      flagsOf (s || s') (z || z') (b5 || b5') (h || h') (b3 || b3') (pv || pv') (n || n') (c || c') := by
  simp only [flagsOf, maskIf_or]
  ac_rfl

theorem maskIf_flagS (b : Bool) : maskIf b flagS = flagsOf b false false false false false false false := by
  simp [flagsOf]

theorem maskIf_flagZ (b : Bool) : maskIf b flagZ = flagsOf false b false false false false false false := by
  simp [flagsOf]

theorem maskIf_flagH (b : Bool) : maskIf b flagH = flagsOf false false false b false false false false := by
  simp [flagsOf]

theorem maskIf_flagPV (b : Bool) : maskIf b flagPV = flagsOf false false false false false b false false := by
  simp [flagsOf]

theorem maskIf_flagC (b : Bool) : maskIf b flagC = flagsOf false false false false false false false b := by
  simp [flagsOf]

theorem maskIf_flagPV_or_flagZ (b : Bool) :
    maskIf b (flagPV ||| flagZ) = flagsOf false b false false false b false false := by
  cases b <;> rfl

theorem flagH_eq : flagH = flagsOf false false false true false false false false := rfl

theorem flagN_eq : flagN = flagsOf false false false false false false true false := rfl

theorem and_flagC (f : Byte) : f &&& flagC = flagsOf false false false false false false false (f.getLsbD 0) :=
  (and_twoPow f 0).trans (maskIf_flagC _)

/-- Bits 5 and 3 of a byte at their places in the flags. -/
theorem bits53_eq (v : Byte) :
    bits53 v = flagsOf false false (v.getLsbD 5) false (v.getLsbD 3) false false false := by
  have mask : (0x28 : Byte) = .twoPow 8 5 ||| .twoPow 8 3 := rfl
  rw [bits53, mask, BitVec.and_or_distrib_left, and_twoPow, and_twoPow]
  simp [flagsOf, flag5, flag3, BitVec.twoPow_eq]

/-- R141: the parity of a byte at its place in the flags. -/
theorem parity_eq (v : Byte) :
    parity v = flagsOf false false false false false (popcount v % 2 == 0) false false :=
  maskIf_flagPV _

/-- R142: sign, zero and bits 5 and 3. -/
theorem sz53_eq (v : Byte) :
    sz53 v = flagsOf (v.getLsbD 7) (v == 0) (v.getLsbD 5) false (v.getLsbD 3) false false false := by
  have mask : (0xA8 : Byte) = flagS ||| 0x28 := rfl
  have sign : v &&& flagS = maskIf (v.getLsbD 7) flagS := and_twoPow v 7
  have low : v &&& 0x28 = _ := bits53_eq v
  rw [sz53, mask, BitVec.and_or_distrib_left, sign, low, maskIf_flagS, maskIf_flagZ]
  simp [flagsOf_or]

/-- R143: sign, zero, bits 5 and 3, and parity. -/
theorem sz53p_eq (v : Byte) :
    sz53p v = flagsOf (v.getLsbD 7) (v == 0) (v.getLsbD 5) false (v.getLsbD 3) (popcount v % 2 == 0) false false := by
  rw [sz53p, sz53_eq, parity_eq]
  simp [flagsOf_or]

/-! ## Logic, increment and decrement (R149 to R153) -/

/-- R149: the flags of `AND`, those of `XOR` and `OR` with `H` set. -/
theorem flagH_or_sz53p (r : Byte) :
    flagH ||| sz53p r =
      flagsOf (r.getLsbD 7) (r == 0) (r.getLsbD 5) true (r.getLsbD 3) (popcount r % 2 == 0) false false := by
  rw [flagH_eq, sz53p_eq]
  simp [flagsOf_or]

theorem lowNibble_eq_zero (v : Byte) : (v &&& 0x0F == 0) = decide (v.toNat % 16 = 0) := by
  have nibble : (v &&& 0x0F).toNat = v.toNat % 16 := Nat.and_two_pow_sub_one_eq_mod v.toNat 4
  rw [← nibble, Bool.eq_iff_iff]
  simp [← BitVec.toNat_inj]

/-- R152: an increment carries out of the low nibble of a byte that ends in `F`. -/
theorem lowNibble_add_one (v : Byte) : (v + 1 &&& 0x0F == 0) = decide (v.toNat % 16 = 15) := by
  rw [lowNibble_eq_zero, decide_eq_decide]
  bv_omega

/-- R152: an increment overflows to `0x80` from `0x7F`. -/
theorem add_one_eq_0x80 (v : Byte) : (v + 1 == 0x80) = (v == 0x7F) := by
  rw [Bool.eq_iff_iff, beq_iff_eq, beq_iff_eq]
  bv_omega

/-- R153: a decrement overflows to `0x7F` from `0x80`. -/
theorem sub_one_eq_0x7F (v : Byte) : (v - 1 == 0x7F) = (v == 0x80) := by
  rw [Bool.eq_iff_iff, beq_iff_eq, beq_iff_eq]
  bv_omega

theorem inc8_eq (v f : Byte) :
    inc8 v f = ⟨v + 1, flagsOf ((v + 1).getLsbD 7) (v + 1 == 0) ((v + 1).getLsbD 5) (decide (v.toNat % 16 = 15))
      ((v + 1).getLsbD 3) (v == 0x7F) false (f.getLsbD 0)⟩ := by
  rw [inc8, add_one_eq_0x80, lowNibble_add_one, and_flagC, maskIf_flagPV, maskIf_flagH, sz53_eq]
  simp [flagsOf_or]

theorem dec8_eq (v f : Byte) :
    dec8 v f = ⟨v - 1, flagsOf ((v - 1).getLsbD 7) (v - 1 == 0) ((v - 1).getLsbD 5) (decide (v.toNat % 16 = 0))
      ((v - 1).getLsbD 3) (v == 0x80) true (f.getLsbD 0)⟩ := by
  rw [dec8, sub_one_eq_0x7F, lowNibble_eq_zero, and_flagC, maskIf_flagPV, maskIf_flagH, flagN_eq, sz53_eq]
  simp [flagsOf_or]

/-- Settles O35: the logic operations' flags are the table's, with `H` set by `AND` alone, and the conditions on the
result of `INC` and `DEC` are conditions on the operand. -/
theorem flagsOfLogicAndCounting : Obligations.FlagsOfLogicAndCounting := by
  intro a v f
  refine ⟨?and, ?xor, ?or, inc8_eq v f, dec8_eq v f⟩
  case and => rw [and8, flagH_or_sz53p]
  case xor => rw [xor8, sz53p_eq]
  case or => rw [or8, sz53p_eq]

/-! ## Rotates and shifts (R157 to R164)

A rotate or shift moves the other seven bits by one place and enters one bit at the end. -/

theorem ushiftRight_seven (v : Byte) : v >>> 7 = maskIf (v.getLsbD 7) (.twoPow 8 0) := by
  refine BitVec.eq_of_getLsbD_eq fun k _ => ?_
  rw [BitVec.getLsbD_ushiftRight, maskIf_getLsbD]
  cases k with
  | zero => simp
  | succ k => simp [BitVec.getLsbD_of_ge v (7 + (k + 1)) (by omega)]

theorem shiftLeft_seven (v : Byte) : v <<< 7 = maskIf (v.getLsbD 0) (.twoPow 8 7) := by
  refine BitVec.eq_of_getLsbD_eq fun k hk => ?_
  rw [BitVec.getLsbD_shiftLeft, maskIf_getLsbD, BitVec.getLsbD_twoPow]
  obtain hlow | rfl : k < 7 ∨ k = 7 := by omega
  · simp [hlow, show 7 ≠ k by omega]
  · simp

/-- R157, R159, R161, R163: the rotates and shifts to the left, and the bit each enters at bit 0. -/
theorem rotRes_left {y : Nat} (left : y = 0 ∨ y = 2 ∨ y = 4 ∨ y = 6) (v : Byte) (c : Bool) :
    rotRes (rotOf y) v c =
      v <<< 1 ||| maskIf (if y = 0 then v.getLsbD 7 else if y = 2 then c else y == 6) (.twoPow 8 0) := by
  obtain rfl | rfl | rfl | rfl := left
  case inl => exact congrArg (v <<< 1 ||| ·) (ushiftRight_seven v)
  all_goals simp [rotOf, rotRes, BitVec.twoPow_eq]

/-- R158, R160, R162, R164: the rotates and shifts to the right, and the bit each enters at bit 7. -/
theorem rotRes_right {y : Nat} (right : y = 1 ∨ y = 3 ∨ y = 5 ∨ y = 7) (v : Byte) (c : Bool) :
    rotRes (rotOf y) v c =
      v >>> 1 ||| maskIf (if y = 1 then v.getLsbD 0 else if y = 3 then c else if y = 5 then v.getLsbD 7 else false)
        (.twoPow 8 7) := by
  obtain rfl | rfl | rfl | rfl := right
  · exact congrArg (v >>> 1 ||| ·) (shiftLeft_seven v)
  · rfl
  · exact (congrArg (· ||| v >>> 1) (and_twoPow v 7)).trans (BitVec.or_comm _ _)
  · simp [rotOf, rotRes]

theorem shiftLeft_enter_succ (v : Byte) (b : Bool) {k : Nat} (hk : k < 7) :
    (v <<< 1 ||| maskIf b (.twoPow 8 0)).getLsbD (k + 1) = v.getLsbD k := by
  rw [BitVec.getLsbD_or, BitVec.getLsbD_shiftLeft, maskIf_getLsbD, BitVec.getLsbD_twoPow]
  simp [show k + 1 < 8 by omega]

theorem shiftLeft_enter_zero (v : Byte) (b : Bool) : (v <<< 1 ||| maskIf b (.twoPow 8 0)).getLsbD 0 = b := by
  rw [BitVec.getLsbD_or, BitVec.getLsbD_shiftLeft, maskIf_getLsbD, BitVec.getLsbD_twoPow]
  simp

theorem ushiftRight_enter_lt (v : Byte) (b : Bool) {k : Nat} (hk : k < 7) :
    (v >>> 1 ||| maskIf b (.twoPow 8 7)).getLsbD k = v.getLsbD (k + 1) := by
  rw [BitVec.getLsbD_or, BitVec.getLsbD_ushiftRight, maskIf_getLsbD, BitVec.getLsbD_twoPow, Nat.add_comm]
  simp [show 7 ≠ k by omega]

theorem ushiftRight_enter_seven (v : Byte) (b : Bool) : (v >>> 1 ||| maskIf b (.twoPow 8 7)).getLsbD 7 = b := by
  rw [BitVec.getLsbD_or, BitVec.getLsbD_ushiftRight, maskIf_getLsbD, BitVec.getLsbD_twoPow]
  simp

/-- The bit moved out is bit 7 to the left (even `y`) and bit 0 to the right. -/
theorem rotOut_rotOf {y : Nat} (hy : y < 8) (v : Byte) :
    rotOut (rotOf y) v = if y % 2 = 0 then v.getLsbD 7 else v.getLsbD 0 := by
  interval_cases y <;> rfl

theorem rotate_flags (op : RotOp) (v f : Byte) :
    let r := (rotate op v f).res
    (rotate op v f).flags = flagsOf (r.getLsbD 7) (r == 0) (r.getLsbD 5) false (r.getLsbD 3) (popcount r % 2 == 0)
      false (rotOut op v) := by
  simp only [rotate, maskIf_flagC, sz53p_eq, flagsOf_or, Bool.false_or, Bool.or_false]

/-! ## `bit`, `res` and `set` (R165, R166) -/

/-- R165: `Z` and `PV` say that the bit is clear, `S` that bit 7 is tested and set; bits 5 and 3 come from `x`. -/
theorem bitFlags_eq (b : Nat) (v x f : Byte) :
    bitFlags b v x f = flagsOf (b == 7 && v.getLsbD 7) (!v.getLsbD b) (x.getLsbD 5) true (x.getLsbD 3)
      (!v.getLsbD b) false (f.getLsbD 0) := by
  rw [bitFlags, and_flagC, flagH_eq, bits53_eq, maskIf_flagPV_or_flagZ, maskIf_flagS]
  simp [flagsOf_or]

theorem one_shiftLeft_getLsbD {y : Nat} (hy : y < 8) (k : Nat) : ((1 : Byte) <<< y).getLsbD k = (k == y) := by
  have h : ((1 : Byte) <<< y).getLsbD k = (decide (y < 8) && decide (y = k)) := BitVec.getLsbD_twoPow y k
  rw [h, decide_eq_true hy, Bool.true_and, Bool.beq_eq_decide_eq, decide_eq_decide]
  exact eq_comm

theorem resBit_getLsbD {y k : Nat} (hy : y < 8) (hk : k < 8) (v : Byte) :
    (resBit y v).getLsbD k = (k != y && v.getLsbD k) := by
  rw [resBit, BitVec.getLsbD_and, BitVec.getLsbD_not, one_shiftLeft_getLsbD hy, decide_eq_true hk, Bool.true_and,
    Bool.and_comm, bne]

theorem setBit_getLsbD {y : Nat} (hy : y < 8) (k : Nat) (v : Byte) :
    (setBit y v).getLsbD k = (k == y || v.getLsbD k) := by
  rw [setBit, BitVec.getLsbD_or, one_shiftLeft_getLsbD hy, Bool.or_comm]

/-- Settles O19: the bits of a rotate or shift are those of a shift by one that enters one bit, to the left for even
`y` and to the right for odd `y`. -/
theorem bitFunctionsBitByBit : Obligations.BitFunctionsBitByBit := by
  intro v f y hy c left o
  refine ⟨fun hleft => ?left, fun hright => ?right, ?flags, fun x => bitFlags_eq y v x f,
    fun k hk => ⟨resBit_getLsbD hy hk v, setBit_getLsbD hy k v⟩⟩
  case left =>
    have res : o.res = _ := rotRes_left hleft v c
    rw [res]
    exact ⟨fun k hk => shiftLeft_enter_succ v _ hk, shiftLeft_enter_zero v _⟩
  case right =>
    have odd : y = 1 ∨ y = 3 ∨ y = 5 ∨ y = 7 := by omega
    have res : o.res = _ := rotRes_right odd v c
    rw [res]
    exact ⟨fun k hk => ushiftRight_enter_lt v _ hk, ushiftRight_enter_seven v _⟩
  case flags => rw [← rotOut_rotOf hy]; exact rotate_flags (rotOf y) v f

end Sys2Proof.Proofs.FlagFunctions
end

/-! # Proofs: one fetch and the operation behind it (30_encoding.md R100, R108)

An instruction of the base table is one fetch and a shared operation. `Laws/Did.lean` gives the operation's effect in
terms of the state behind the fetch; the lemmas here give it in terms of the state in front. -/

section
open Sys2Proof Sys2Proof.Machine

namespace Sys2Proof.Proofs.OneFetch

/-! ## What the operation finds behind the fetch -/

section
variable (s : State)

@[simp] theorem fetch_rd (a : Word) : s.fetch.rd a = s.rd a := rfl

@[simp] theorem fetch_peek16 (a : Word) : s.fetch.peek16 a = s.peek16 a := rfl

@[simp] theorem fetch_operand : s.fetch.operand = s.codeByte 1 := rfl

@[simp] theorem fetch_operand16 : s.fetch.operand16 = s.codeWord 1 := by
  simp [State.operand16, State.peek16, State.codeWord, State.codeByte, State.codeAddr, BitVec.add_assoc]

@[simp] theorem fetch_ir : s.fetch.ir = (s.regs.past 1 0).ir := rfl

/-- No pair holds `R`, the one register beside `PC` that a fetch changes. -/
@[simp] theorem fetch_reg16 (p : Reg16) : s.fetch.reg16 p = s.regs.get16 p := by cases p <;> rfl

/-- A fetch changes no 8-bit register but `R`. -/
theorem fetch_reg8 {x : Reg8} (h : x ≠ .r) : s.fetch.reg8 x = s.regs.get8 x := by
  cases x
  case r => exact absurd rfl h
  all_goals rfl

/-! ## The bytes of the instruction

`PC` and the cycles, spelt as the fetch and the operand reads make them one after the other. -/

theorem past_one_zero (g : Regs) : g.past 1 0 = { g with pc := g.pc + 1, r := nextR g.r } := rfl

theorem past_one_one (g : Regs) : g.past 1 1 = { g with pc := g.pc + 1 + 1, r := nextR g.r } := by
  simp [Regs.past, BitVec.add_assoc]

theorem past_one_two (g : Regs) : g.past 1 2 = { g with pc := g.pc + 1 + 1 + 1, r := nextR g.r } := by
  simp [Regs.past, BitVec.add_assoc]

theorem code_one_zero : s.code 1 0 = [.fetch s.regs.pc] := by
  simp [State.code, State.codeAddr]

theorem code_one_one : s.code 1 1 = [.fetch s.regs.pc, s.rd (s.regs.pc + 1)] := by
  simp [State.code, State.codeAddr]

theorem code_one_two : s.code 1 2 = [.fetch s.regs.pc, s.rd (s.regs.pc + 1), s.rd (s.regs.pc + 1 + 1)] := by
  simp [State.code, State.codeAddr, List.range_succ, BitVec.add_assoc]

end

/-! ## From the operation's effect to the instruction's -/

section
variable {s t : State} {i : Instr}

/-- An instruction that fetches and then does `e` has the effect `e` with the fetch in front. -/
theorem ran_of_did {e f : Effect} (did : e.Of s.fetch t) (run : exec i s = .next t)
    (same : { e with bus := .fetch s.regs.pc :: e.bus, tstates := 4 + e.tstates } = f) : s.Ran i f :=
  ⟨t, run, did.afterFetch.cast same⟩

/-- `ran_of_did` for an effect that leaves the shadow bank and the control cells alone. -/
theorem ran_does {g g' : Regs} {bus bus' : List BusCycle} {n n' : Int} (did : (s.fetch.does g bus n).Of s.fetch t)
    (run : exec i s = .next t) (regs : g = g') (cycles : .fetch s.regs.pc :: bus = bus') (tstates : 4 + n = n') :
    s.Ran i (s.does g' bus' n') :=
  ran_of_did did run (by rw [← regs, ← cycles, ← tstates]; rfl)

end

/-! ## Register numbers (R104) -/

theorem lt_of_r8 {i : Nat} {x : Reg8} (h : r8 i = some x) : i < 8 := by
  by_contra hi
  have none : r8 i = none := List.getD_eq_default _ _ (Nat.le_of_not_lt hi)
  simp [none] at h

theorem ne_r_of_r8 {i : Nat} {x : Reg8} (h : r8 i = some x) : x ≠ .r := by
  have hi := lt_of_r8 h
  interval_cases i <;> cases h <;> decide

end Sys2Proof.Proofs.OneFetch
end

/-! # Proofs: base loads, exchanges and accumulator ports (41_base_load_exchange.md R182 to R204) -/

section
open Sys2Proof Sys2Proof.Machine Sys2Proof.Proofs.OneFetch

namespace Sys2Proof.Proofs.LoadsAndExchanges

/-! ## The rows of the base table

A row that runs over a table of operands holds one shared operation, applied to the operand. -/

section
variable {p y z : Nat} {x v : Reg8} (s : State)

/-- R182, a square of the table: one entry for each two registers. -/
theorem exec_ldRegReg (hy : r8 y = some x) (hz : r8 z = some v) :
    exec (baseTable (opcode 1 y z)) s = .next (ldRegReg x v s.fetch) := by
  have hy8 := lt_of_r8 hy
  have hz8 := lt_of_r8 hz
  interval_cases y <;> cases hy
  all_goals interval_cases z <;> cases hz <;> rfl

theorem exec_ldRegImm (hy : r8 y = some x) : exec (baseTable (opcode 0 y 6)) s = .next (ldRegImm x s.fetch) := by
  have hy8 := lt_of_r8 hy
  interval_cases y <;> cases hy <;> rfl

theorem exec_ldRegMem (hy : r8 y = some x) : exec (baseTable (opcode 1 y 6)) s = .next (ldRegMem x s.fetch) := by
  have hy8 := lt_of_r8 hy
  interval_cases y <;> cases hy <;> rfl

theorem exec_stMemReg (hz : r8 z = some v) : exec (baseTable (opcode 1 6 z)) s = .next (stMemReg v s.fetch) := by
  have hz8 := lt_of_r8 hz
  interval_cases z <;> cases hz <;> rfl

theorem exec_ldAPtr (hp : p < 2) : exec (baseTable (opcode 0 (2 * p + 1) 2)) s = .next (ldAPtr (rp p) s.fetch) := by
  interval_cases p <;> rfl

theorem exec_ldPairImm (hp : p < 4) : exec (baseTable (opcode 0 (2 * p) 1)) s = .next (ldPairImm (rp p) s.fetch) := by
  interval_cases p <;> rfl

end

/-- The low half of the next address, as R192 adds to it. -/
theorem loByte_add_one (w : Word) : loByte (w + 1#16) = loByte w + 1#8 := loByte_add w 1

/-! ## The obligations

Each instruction is its operation's `_did` lemma behind one fetch. What is left is the spelling of the registers and
of the cycles. -/

/-- Settles O1. -/
theorem loadsOfOneRegister : Obligations.LoadsOfOneRegister := by
  intro s
  refine ⟨fun y z x v hy hz => ?ldRegReg, fun y x hy => ⟨?ldRegImm, ?ldRegMem⟩, fun p hp => ?ldAPtr, ?ldAAbs⟩
  case ldRegReg =>
    refine ran_does (ldRegReg_did _ x v) (exec_ldRegReg s hy hz) ?_ (code_one_zero s).symm rfl
    simp [past_one_zero, fetch_reg8 s (ne_r_of_r8 hz)]
  case ldRegImm =>
    exact ran_does (ldRegImm_did _ x) (exec_ldRegImm s hy) (by simp [past_one_one]) (code_one_one s).symm rfl
  case ldRegMem =>
    exact ran_does (ldRegMem_did _ x) (exec_ldRegMem s hy) (by simp [past_one_zero]) (by simp [code_one_zero]) rfl
  case ldAPtr =>
    exact ran_does (ldAPtr_did _ (rp p)) (exec_ldAPtr s hp) (by simp [past_one_zero]) (by simp [code_one_zero]) rfl
  case ldAAbs =>
    exact ran_does (ldAAbs_did _) rfl (by simp [past_one_two]) (by simp [code_one_two]) rfl

/-- Settles O2: the low half that `MEMPTR` takes from a pair is its low register, and from `nn` that of `nn + 1`. -/
theorem storesOfOneByte : Obligations.StoresOfOneByte := by
  intro s
  refine ⟨fun z v hz => ?stMemReg, ?stMemImm, ?stAtBC, ?stAtDE, ?stAAbs⟩
  case stMemReg =>
    refine ran_does (stMemReg_did _ v) (exec_stMemReg s hz) rfl ?_ rfl
    simp [code_one_zero, fetch_reg8 s (ne_r_of_r8 hz)]
  case stMemImm =>
    exact ran_does (stMemImm_did _) rfl (by simp [past_one_one]) (by simp [code_one_one]) rfl
  case stAtBC =>
    exact ran_does (stAPtr_did _ .bc) rfl (by simp [past_one_zero, Regs.get16]) (by simp [code_one_zero]) rfl
  case stAtDE =>
    exact ran_does (stAPtr_did _ .de) rfl (by simp [past_one_zero, Regs.get16]) (by simp [code_one_zero]) rfl
  case stAAbs =>
    exact ran_does (stAAbs_did _) rfl (by simp [past_one_two, loByte_add_one]) (by simp [code_one_two]) rfl

/-- Settles O3. -/
theorem loadsOfAPair : Obligations.LoadsOfAPair := by
  intro s
  refine ⟨fun p hp => ?ldPairImm, ?ldPairAbs, ?stPairAbs, ?ldSpPair⟩
  case ldPairImm =>
    exact ran_does (ldPairImm_did _ (rp p)) (exec_ldPairImm s hp) (by simp [past_one_two]) (code_one_two s).symm rfl
  case ldPairAbs =>
    exact ran_does (ldPairAbs_did _ .hl) rfl (by simp [past_one_two]) (by simp [code_one_two, State.rd16]) rfl
  case stPairAbs =>
    exact ran_does (stPairAbs_did _ .hl) rfl (by simp [past_one_two]) (by simp [code_one_two, wr16]) rfl
  case ldSpPair =>
    exact ran_does (ldSpPair_did _ .hl) rfl (by simp [past_one_zero]) (by simp [code_one_zero, State.irWait]) rfl

/-- Settles O5: the fetch is before the exchange, which moves neither `PC` nor `R`. -/
theorem exchanges : Obligations.Exchanges := by
  intro s
  refine ⟨?exAF, ?exx, ?exDEHL, ?exSpPair⟩
  case exAF => exact ran_of_did (exAF_did _) rfl (by rw [code_one_zero]; rfl)
  case exx => exact ran_of_did (exx_did _) rfl (by rw [code_one_zero]; rfl)
  case exDEHL =>
    refine ran_does (exDEHL_did _) rfl ?_ (code_one_zero s).symm rfl
    simp [past_one_zero, Regs.set16, Regs.get16]
  case exSpPair =>
    exact ran_does (exSpPair_did _ .hl) rfl (by simp [past_one_zero]) (by simp [code_one_zero, State.rd16]) rfl

/-- Settles O6: the operation takes the port from the state behind the fetch, where `A` is still the old one. -/
theorem accumulatorPorts : Obligations.AccumulatorPorts := by
  intro s
  refine ⟨?inA, ?outA⟩
  case inA => exact ran_does (inAImm_did _) rfl (by simp [past_one_one]) (by simp [code_one_one]) rfl
  case outA => exact ran_does (outImmA_did _) rfl (by simp [past_one_one]) (by simp [code_one_one]) rfl

end Sys2Proof.Proofs.LoadsAndExchanges
end

/-! # Proofs: two fetches and the operation behind them (30_encoding.md R100, R101)

What `OneFetch` says of the base table, for the instructions of a prefixed table without operand bytes. -/

section
open Sys2Proof Sys2Proof.Machine Sys2Proof.Proofs.OneFetch

namespace Sys2Proof.Proofs.TwoFetches

section
variable (s : State)

/-- No pair holds `R`, the one register beside `PC` that a fetch changes. -/
@[simp] theorem fetch2_reg16 (p : Reg16) : s.fetch2.reg16 p = s.regs.get16 p :=
  (fetch_reg16 s.fetch p).trans (fetch_reg16 s p)

theorem past_two_zero (g : Regs) : g.past 2 0 = { g with pc := g.pc + 1 + 1, r := nextR (nextR g.r) } := by
  simp [Regs.past, BitVec.add_assoc]

@[simp] theorem fetch2_ir : s.fetch2.ir = (s.regs.past 2 0).ir := by
  simp [State.ir, Regs.ir, past_two_zero]

theorem code_two_zero : s.code 2 0 = [.fetch s.regs.pc, .fetch (s.regs.pc + 1)] := by
  simp [State.code, State.codeAddr, List.range_succ]

end

/-- An instruction that fetches twice and then does an effect on registers and bus has that effect with the two
fetches in front. -/
theorem ran_does2 {s t : State} {i : Instr} {g g' : Regs} {bus bus' : List BusCycle} {n n' : Int}
    (did : (s.fetch2.does g bus n).Of s.fetch2 t) (run : exec i s = .next t) (regs : g = g')
    (cycles : .fetch s.regs.pc :: .fetch (s.regs.pc + 1) :: bus = bus') (tstates : 4 + (4 + n) = n') :
    s.Ran i (s.does g' bus' n') :=
  ⟨t, run, did.afterFetch2.cast (by rw [← regs, ← cycles, ← tstates]; simp [State.does])⟩

end Sys2Proof.Proofs.TwoFetches
end

/-! # Proofs: base arithmetic and logic (42_base_alu.md R230 to R250; 45_ed.md R354, R355) -/

section
open Sys2Proof Sys2Proof.Machine Sys2Proof.Proofs.FlagFunctions Sys2Proof.Proofs.OneFetch Sys2Proof.Proofs.TwoFetches

namespace Sys2Proof.Proofs.BaseArithmetic

/-! ## The rows of the tables

A row that runs over operations or operands holds one shared operation, applied to them. -/

section
variable {p y z : Nat} {x : Reg8} (s : State)

/-- R230 to R237, a square of the table: one entry for each operation and register. -/
theorem exec_aluReg (hy : y < 8) (hz : r8 z = some x) :
    exec (baseTable (opcode 2 y z)) s = .next (aluReg (aluOf y) x s.fetch) := by
  have hz8 := lt_of_r8 hz
  interval_cases z <;> cases hz
  all_goals interval_cases y <;> rfl

theorem exec_aluMem (hy : y < 8) : exec (baseTable (opcode 2 y 6)) s = .next (aluMem (aluOf y) s.fetch) := by
  interval_cases y <;> rfl

theorem exec_aluImm (hy : y < 8) : exec (baseTable (opcode 3 y 6)) s = .next (aluImm (aluOf y) s.fetch) := by
  interval_cases y <;> rfl

theorem exec_incReg (hy : r8 y = some x) : exec (baseTable (opcode 0 y 4)) s = .next (incReg x s.fetch) := by
  have hy8 := lt_of_r8 hy
  interval_cases y <;> cases hy <;> rfl

theorem exec_decReg (hy : r8 y = some x) : exec (baseTable (opcode 0 y 5)) s = .next (decReg x s.fetch) := by
  have hy8 := lt_of_r8 hy
  interval_cases y <;> cases hy <;> rfl

theorem exec_incPair (hp : p < 4) : exec (baseTable (opcode 0 (2 * p) 3)) s = .next (incPair (rp p) s.fetch) := by
  interval_cases p <;> rfl

theorem exec_decPair (hp : p < 4) : exec (baseTable (opcode 0 (2 * p + 1) 3)) s = .next (decPair (rp p) s.fetch) := by
  interval_cases p <;> rfl

theorem exec_addPair (hp : p < 4) :
    exec (baseTable (opcode 0 (2 * p + 1) 1)) s = .next (addPair .hl (rp p) s.fetch) := by
  interval_cases p <;> rfl

theorem exec_adcHL (hp : p < 4) : exec (edTable (opcode 1 (2 * p + 1) 2)) s = .next (adcHL (rp p) s.fetch2) := by
  interval_cases p <;> rfl

theorem exec_sbcHL (hp : p < 4) : exec (edTable (opcode 1 (2 * p) 2)) s = .next (sbcHL (rp p) s.fetch2) := by
  interval_cases p <;> rfl

end

/-! ## The accumulator's functions -/

/-- R119: the list of the eight operations, entry by entry. -/
theorem aluOut_aluOf {y : Nat} (hy : y < 8) (a v f : Byte) :
    aluOut (aluOf y) a v f =
      [add8 a v false, add8 a v (f.getLsbD 0), sub8 a v false, sub8 a v (f.getLsbD 0), and8 a v, xor8 a v, or8 a v,
        ⟨a, cp8 a v⟩].getD y ⟨a, f⟩ := by
  interval_cases y <;> rfl

/-- The flags that the accumulator rotates keep. -/
theorem and_flagsSZPV (f : Byte) :
    f &&& (flagS ||| flagZ ||| flagPV) =
      flagsOf (f.getLsbD 7) (f.getLsbD 6) false false false (f.getLsbD 2) false false := by
  have sign : f &&& flagS = _ := (and_twoPow f 7).trans (maskIf_flagS _)
  have zero : f &&& flagZ = _ := (and_twoPow f 6).trans (maskIf_flagZ _)
  have parity : f &&& flagPV = _ := (and_twoPow f 2).trans (maskIf_flagPV _)
  simp [BitVec.and_or_distrib_left, sign, zero, parity, flagsOf_or]

theorem rotateA_eq (op : RotOp) (a f : Byte) :
    let r := rotRes op a (f.getLsbD 0)
    rotateA op a f = ⟨r, flagsOf (f.getLsbD 7) (f.getLsbD 6) (r.getLsbD 5) false (r.getLsbD 3) (f.getLsbD 2) false
      (rotOut op a)⟩ := by
  simp [rotateA, carryOf, and_flagsSZPV, bits53_eq, maskIf_flagC, flagsOf_or]

/-- R247: the carry enters at bit 0. -/
theorem maskIf_eq_setWidth (c : Bool) : maskIf c 0x01 = (BitVec.ofBool c).setWidth 8 := by
  cases c <;> rfl

/-- R248: the carry enters at bit 7. -/
theorem maskIf_eq_setWidth_shiftLeft (c : Bool) : maskIf c 0x80 = (BitVec.ofBool c).setWidth 8 <<< 7 := by
  cases c <;> rfl

theorem cplOut_eq (a f : Byte) :
    let r := ~~~a
    cplOut a f = ⟨r, flagsOf (f.getLsbD 7) (f.getLsbD 6) (r.getLsbD 5) true (r.getLsbD 3) (f.getLsbD 2) true
      (f.getLsbD 0)⟩ := by
  have flip : a ^^^ 0xFF = ~~~a := BitVec.xor_allOnes
  have mask : flagC ||| flagPV ||| flagZ ||| flagS = (flagS ||| flagZ ||| flagPV) ||| flagC := rfl
  rw [cplOut, flip, mask, BitVec.and_or_distrib_left, and_flagsSZPV, and_flagC, bits53_eq, flagN_eq, flagH_eq]
  simp [flagsOf_or]

/-- R249: the low digit of a byte. -/
theorem toNat_and_0x0F (v : Byte) : (v &&& 0x0F).toNat = v.toNat % 16 := Nat.and_two_pow_sub_one_eq_mod v.toNat 4

/-! ## Operations that several instructions share -/

section
variable {s : State} {i : Instr}

/-- R239, R241: an instruction that reads the byte at `HL` and writes it back changed. -/
theorem ran_modifyMem {o : AluOut} (run : exec i s = .next (modifyMem (s.regs.get16 .hl) o s.fetch)) :
    s.Ran i (s.does { s.regs.past 1 0 with f := o.flags }
      (s.code 1 0 ++ s.readModifyWrite (s.regs.get16 .hl) 1 o.res) 11) :=
  ran_does (modifyMem_did _ _ o) run (by simp [past_one_zero]) (by simp [code_one_zero, State.readModifyWrite]) rfl

/-- R245 to R248: an accumulator rotate of the base table, given the result as the statement writes it. -/
theorem ran_rotAcc {op : RotOp} {r : Byte} (run : exec i s = .next (rotAcc op s.fetch))
    (res : rotRes op s.regs.a (s.regs.f.getLsbD 0) = r) :
    s.Ran i (s.does
      { s.regs.past 1 0 with
        a := r
        f := flagsOf (s.regs.f.getLsbD 7) (s.regs.f.getLsbD 6) (r.getLsbD 5) false (r.getLsbD 3)
          (s.regs.f.getLsbD 2) false (rotOut op s.regs.a) } (s.code 1 0) 4) := by
  subst res
  refine ran_does (rotAcc_did _ op) run ?_ (code_one_zero s).symm rfl
  simp [past_one_zero, Regs.takes, rotateA_eq]

end

/-! ## The obligations -/

/-- Settles O7: each form is its operation's `_did` lemma behind one fetch, and the list in the statement is
`aluOut`. -/
theorem accumulatorOperations : Obligations.AccumulatorOperations := by
  intro s y hy a c out hl
  have out_eq (v : Byte) : aluOut (aluOf y) s.regs.a v s.regs.f = out v := aluOut_aluOf hy _ _ _
  refine ⟨fun z x hz => ?aluReg, ?aluMem, ?aluImm⟩
  case aluReg =>
    refine ran_does (aluReg_did _ (aluOf y) x) (exec_aluReg s hy hz) ?_ (code_one_zero s).symm rfl
    simp [past_one_zero, fetch_reg8 s (ne_r_of_r8 hz), out_eq]
  case aluMem =>
    exact ran_does (aluMem_did _ (aluOf y)) (exec_aluMem s hy) (by simp [past_one_zero, out_eq, hl])
      (by simp [code_one_zero, hl]) rfl
  case aluImm =>
    exact ran_does (aluImm_did _ (aluOf y)) (exec_aluImm s hy) (by simp [past_one_one, out_eq])
      (code_one_one s).symm rfl

/-- Settles O8: no row of the table names `R`, so the fetch leaves the register counted. -/
theorem incrementAndDecrement : Obligations.IncrementAndDecrement := by
  intro s
  refine ⟨fun y x hy => ⟨?incReg, ?decReg⟩, ?incMem, ?decMem⟩
  case incReg =>
    refine ran_does (incReg_did _ x) (exec_incReg s hy) ?_ (code_one_zero s).symm rfl
    simp [past_one_zero, fetch_reg8 s (ne_r_of_r8 hy)]
  case decReg =>
    refine ran_does (decReg_did _ x) (exec_decReg s hy) ?_ (code_one_zero s).symm rfl
    simp [past_one_zero, fetch_reg8 s (ne_r_of_r8 hy)]
  case incMem => exact ran_modifyMem rfl
  case decMem => exact ran_modifyMem rfl

/-- Settles O9: the wait is at `IR` behind the fetches, and the order in which an operation writes `MEMPTR`, `F` and
`HL` makes no difference. -/
theorem pairArithmetic : Obligations.PairArithmetic := by
  intro s p hp
  refine ⟨?incPair, ?decPair, ?addPair, ?adcHL, ?sbcHL⟩
  case incPair =>
    exact ran_does (incPair_did _ (rp p)) (exec_incPair s hp) (by simp [past_one_zero])
      (by simp [code_one_zero, State.irWait]) rfl
  case decPair =>
    exact ran_does (decPair_did _ (rp p)) (exec_decPair s hp) (by simp [past_one_zero])
      (by simp [code_one_zero, State.irWait]) rfl
  case addPair =>
    exact ran_does (addPair_did _ .hl (rp p)) (exec_addPair s hp) (by simp [past_one_zero, Regs.set16])
      (by simp [code_one_zero, State.irWait]) rfl
  case adcHL =>
    exact ran_does2 (adcHL_did _ (rp p)) (exec_adcHL s hp) (by simp [past_two_zero, Regs.set16])
      (by simp [code_two_zero, State.irWait]) rfl
  case sbcHL =>
    exact ran_does2 (sbcHL_did _ (rp p)) (exec_sbcHL s hp) (by simp [past_two_zero, Regs.set16])
      (by simp [code_two_zero, State.irWait]) rfl

/-- Settles O10: a byte rotated by one place is the two shifts that `rotRes` joins. -/
theorem accumulatorRotatesAndComplement : Obligations.AccumulatorRotatesAndComplement := by
  intro s
  refine ⟨?rlca, ?rrca, ?rla, ?rra, ?cpl⟩
  case rlca => exact ran_rotAcc (op := .rlc) rfl rfl
  case rrca => exact ran_rotAcc (op := .rrc) rfl rfl
  case rla => exact ran_rotAcc (op := .rl) rfl (congrArg (s.regs.a <<< 1 ||| ·) (maskIf_eq_setWidth _))
  case rra => exact ran_rotAcc (op := .rr) rfl (congrArg (s.regs.a >>> 1 ||| ·) (maskIf_eq_setWidth_shiftLeft _))
  case cpl =>
    refine ran_does (cpl_did _) rfl ?_ (code_one_zero s).symm rfl
    simp [past_one_zero, Regs.takes, cplOut_eq]

/-- Settles O11: the low digit is the remainder by 16, and `0xFA` is the mask that clears `C` and `PV`. -/
theorem decimalAdjust : Obligations.DecimalAdjust := by
  intro s
  refine ran_does (daa_did _) rfl ?_ (code_one_zero s).symm rfl
  have mask : ~~~(flagC ||| flagPV) = 0xFA := rfl
  simp only [past_one_zero, Regs.takes, daaOut, State.fetch_regs, toNat_and_0x0F, mask, carryOf, gt_iff_lt]

end Sys2Proof.Proofs.BaseArithmetic
end

/-! # Proofs: base control flow (43_base_control.md R280 to R286) -/

section
open Sys2Proof Sys2Proof.Machine Sys2Proof.Proofs.OneFetch

namespace Sys2Proof.Proofs.ControlFlow

/-! ## The rows of the base table

A row that runs over the conditions holds one shared operation, applied to the condition. -/

section
variable {y : Nat} (s : State)

theorem exec_jpCond (hy : y < 8) : exec (baseTable (opcode 3 y 2)) s = .next (jpCond (ccOf y) s.fetch) := by
  interval_cases y <;> rfl

/-- R285: only the first four conditions have a relative jump, behind `JR e` in the same column. -/
theorem exec_jrCond (hy : y < 4) : exec (baseTable (opcode 0 (y + 4) 0)) s = .next (jrCond (ccOf y) s.fetch) := by
  interval_cases y <;> rfl

end

/-! ## The relative jump -/

section
variable {s t : State} {i : Instr}

/-- `ran_does` for an operation that ends in `RelJump(taken)`: `g`, `bus` and `n` are those of the jump not taken. -/
theorem ran_branch {taken : Bool} {g g' : Regs} {bus bus' : List BusCycle} {n n' : Int}
    (did : Effect.Of
      (if taken then
        s.fetch.does (g.jump (s.regs.pc + 1 + 1 + signExt (s.codeByte 1))) (bus ++ [.wait (s.regs.pc + 1) 5]) (n + 5)
       else s.fetch.does g bus n) s.fetch t)
    (run : exec i s = .next t) (regs : g = g') (cycles : .fetch s.regs.pc :: bus = bus') (tstates : 4 + n = n') :
    s.Ran i (s.branch taken g' bus' n') := by
  subst regs cycles tstates
  cases taken
  case false => exact ran_does did run rfl rfl rfl
  case true => exact ran_does did run (by simp [State.codeAddr, BitVec.add_assoc]) rfl (by omega)

/-- R284, R285: an instruction that is one fetch and `RelJump(taken)`. -/
theorem ran_relJump {taken : Bool} (run : exec i s = .next (relJump taken s.fetch)) :
    s.Ran i (s.branch taken (s.regs.past 1 1) (s.code 1 1) 7) :=
  ran_branch (g := { s.fetch.regs with pc := s.regs.pc + 1 + 1 }) (bus := [s.rd (s.regs.pc + 1)]) (n := 3)
    (relJump_did _ taken) run (by simp [past_one_one]) (code_one_one s).symm rfl

end

/-! ## The obligations -/

/-- Settles O13: each jump is its operation's `_did` lemma behind one fetch, which leaves `F`, so the condition is tested
on the flags in front of it. `DJNZ` waits at `IR` before the displacement and counts `B` down in both cases (R286). -/
theorem jumps : Obligations.Jumps := by
  intro s
  refine ⟨?nop, ?jp, fun y hy => ?jpCond, ?jpPair, ?jr, fun y hy => ?jrCond, ?djnz⟩
  case nop => exact ran_does (nop_did _) rfl rfl (code_one_zero s).symm rfl
  case jp => exact ran_does (jp_did _) rfl (by simp [past_one_zero, Regs.jump]) (by simp [code_one_two]) rfl
  case jpCond =>
    refine ran_does (jpCond_did _ (ccOf y)) (exec_jpCond s hy) ?_ (by simp [code_one_two]) rfl
    simp [past_one_two, State.codeAddr, BitVec.add_assoc]
  case jpPair => exact ran_does (jpPair_did _ .hl) rfl (by simp [past_one_zero]) (code_one_zero s).symm rfl
  case jr => exact ran_relJump rfl
  case jrCond => exact ran_relJump (exec_jrCond s hy)
  case djnz =>
    exact ran_branch (g := { s.fetch.regs with b := s.regs.b - 1, pc := s.regs.pc + 1 + 1 })
      (bus := [s.irWait 1 1, s.rd (s.regs.pc + 1)]) (n := 4) (djnz_did s.fetch) rfl (by simp [past_one_one])
      (by simp [code_one_zero, State.codeAddr]) rfl

end Sys2Proof.Proofs.ControlFlow
end

/-! # Proofs: the CB table (44_cb.md R330 to R342) -/

section
open Sys2Proof Sys2Proof.Machine Sys2Proof.Proofs.OneFetch Sys2Proof.Proofs.TwoFetches

namespace Sys2Proof.Proofs.CbTable

/-! ## What the operation finds behind two fetches -/

section
variable (s : State)

@[simp] theorem fetch2_rd (a : Word) : s.fetch2.rd a = s.rd a := rfl

theorem fetch2_reg8 {x : Reg8} (h : x ≠ .r) : s.fetch2.reg8 x = s.regs.get8 x :=
  (fetch_reg8 s.fetch h).trans (fetch_reg8 s h)

end

/-! ## The columns of the table

Each quarter of the table holds one shared operation, applied to the rotate or the bit number of the row and to the
operand of the column (R330). -/

section
variable {y z : Nat} {x : Reg8} (s : State)

/-- A column of a register. -/
theorem exec_cbTable_reg (hy : y < 8) (hz : r8 z = some x) :
    exec (cbTable (opcode 0 y z)) s = .next (rotReg (rotOf y) x s.fetch2) ∧
    exec (cbTable (opcode 1 y z)) s = .next (bitReg y x s.fetch2) ∧
    exec (cbTable (opcode 2 y z)) s = .next (resReg y x s.fetch2) ∧
    exec (cbTable (opcode 3 y z)) s = .next (setBitReg y x s.fetch2) := by
  have hz8 := lt_of_r8 hz
  interval_cases z <;> cases hz
  all_goals interval_cases y <;> exact ⟨rfl, rfl, rfl, rfl⟩

/-- The column of the byte at `HL`. -/
theorem exec_cbTable_mem (hy : y < 8) :
    exec (cbTable (opcode 0 y 6)) s = .next (rotMem (rotOf y) s.fetch2) ∧
    exec (cbTable (opcode 1 y 6)) s = .next (bitMem y s.fetch2) ∧
    exec (cbTable (opcode 2 y 6)) s = .next (resMem y s.fetch2) ∧
    exec (cbTable (opcode 3 y 6)) s = .next (setMem y s.fetch2) := by
  interval_cases y <;> exact ⟨rfl, rfl, rfl, rfl⟩

end

/-- R330: an instruction that fetches twice, reads the byte at `HL` and writes it back changed. -/
theorem ran_modifyMem2 {s : State} {i : Instr} (o : AluOut)
    (run : exec i s = .next (modifyMem (s.regs.get16 .hl) o s.fetch2)) :
    s.Ran i (s.does { s.regs.past 2 0 with f := o.flags }
      (s.code 2 0 ++ s.readModifyWrite (s.regs.get16 .hl) 1 o.res) 15) :=
  ran_does2 (modifyMem_did _ _ o) run (by simp [past_two_zero]) (by simp [code_two_zero, State.readModifyWrite]) rfl

/-! ## The obligations -/

/-- Settles O17: no column names `R`, so the two fetches leave the register that the operation reads. -/
theorem bitOperationsOnRegisters : Obligations.BitOperationsOnRegisters := by
  intro s y z x hy hz g v o
  obtain ⟨rot, bit, res, set⟩ := exec_cbTable_reg s hy hz
  have read : s.fetch2.reg8 x = v := fetch2_reg8 s (ne_r_of_r8 hz)
  have cycles := (code_two_zero s).symm
  refine ⟨?rot, ?bit, ?res, ?set⟩
  case rot => exact ran_does2 (rotReg_did _ (rotOf y) x) rot (by simp [g, o, past_two_zero, read]) cycles rfl
  case bit => exact ran_does2 (bitReg_did _ y x) bit (by simp [g, past_two_zero, read]) cycles rfl
  case res => exact ran_does2 (resReg_did _ y x) res (by simp [g, past_two_zero, read]) cycles rfl
  case set => exact ran_does2 (setBitReg_did _ y x) set (by simp [g, past_two_zero, read]) cycles rfl

/-- Settles O18: `BIT` reads alone, and `RES` and `SET` are changes of the byte that give `F` back as it was. -/
theorem bitOperationsOnMemory : Obligations.BitOperationsOnMemory := by
  intro s y hy g hl v o
  obtain ⟨rot, bit, res, set⟩ := exec_cbTable_mem s hy
  refine ⟨?rot, ?bit, ?res, ?set⟩
  case rot => exact ran_modifyMem2 o (by simpa [rotMem] using rot)
  case bit =>
    exact ran_does2 (bitMem_did _ y) bit (by simp [g, v, hl, past_two_zero]) (by simp [hl, code_two_zero]) rfl
  case res => exact ran_modifyMem2 ⟨resBit y v, s.regs.f⟩ (by simpa [resMem] using res)
  case set => exact ran_modifyMem2 ⟨setBit y v, s.regs.f⟩ (by simpa [setMem] using set)

end Sys2Proof.Proofs.CbTable
end

/-! # Proofs: port input and output, pair loads and `NEG` of the ED table (45_ed.md R350 to R352, R356 to R358) -/

section
open Sys2Proof Sys2Proof.Machine Sys2Proof.Proofs.FlagFunctions Sys2Proof.Proofs.OneFetch Sys2Proof.Proofs.TwoFetches
open Sys2Proof.Proofs.CbTable

namespace Sys2Proof.Proofs.EdTable

/-! ## Two operand bytes behind two fetches -/

section
variable (s : State)

@[simp] theorem fetch2_peek16 (a : Word) : s.fetch2.peek16 a = s.peek16 a := by
  simp [State.peek16]

@[simp] theorem fetch2_operand16 : s.fetch2.operand16 = s.codeWord 2 := by
  simp [State.operand16, State.peek16, State.codeWord, State.codeByte, State.codeAddr, BitVec.add_assoc]

theorem past_two_two (g : Regs) :
    g.past 2 2 = { g with pc := g.pc + 1 + 1 + 1 + 1, r := nextR (nextR g.r) } := by
  simp [Regs.past, BitVec.add_assoc]

theorem code_two_two :
    s.code 2 2 =
      [.fetch s.regs.pc, .fetch (s.regs.pc + 1), s.rd (s.regs.pc + 1 + 1), s.rd (s.regs.pc + 1 + 1 + 1)] := by
  simp [State.code, State.codeAddr, List.range_succ, BitVec.add_assoc]

end

/-- No pair holds `MEMPTR`, so a pair and `MEMPTR` are written in either order. -/
theorem set16_with_memptr (g : Regs) (p : Reg16) (w m : Word) :
    { g.set16 p w with memptr := m } = Regs.set16 { g with memptr := m } p w := by
  cases p <;> rfl

/-! ## The rows of the ED table

A column of the table's second quarter holds one shared operation, applied to the register or the pair of the row. -/

section
variable {p y : Nat} {x : Reg8} (s : State)

theorem exec_inRegC (hy : r8 y = some x) : exec (edTable (opcode 1 y 0)) s = .next (inRegC x s.fetch2) := by
  have hy8 := lt_of_r8 hy
  interval_cases y <;> cases hy <;> rfl

theorem exec_outCReg (hy : r8 y = some x) :
    exec (edTable (opcode 1 y 1)) s = .next (outC (s.fetch2.reg8 x) s.fetch2) := by
  have hy8 := lt_of_r8 hy
  interval_cases y <;> cases hy <;> rfl

theorem exec_stPairAbs (hp : p < 4) : exec (edTable (opcode 1 (2 * p) 3)) s = .next (stPairAbs (rp p) s.fetch2) := by
  interval_cases p <;> rfl

theorem exec_ldPairAbs (hp : p < 4) :
    exec (edTable (opcode 1 (2 * p + 1) 3)) s = .next (ldPairAbs (rp p) s.fetch2) := by
  interval_cases p <;> rfl

/-- R358: all eight encodings. -/
theorem exec_neg (hy : y < 8) : exec (edTable (opcode 1 y 4)) s = .next (neg s.fetch2) := by
  interval_cases y <;> rfl

end

/-! ## The flags of a byte read from a port -/

/-- R350: `C` is the old one, the rest tells the byte. -/
theorem inFlags_eq (v f : Byte) :
    inFlags v f = flagsOf (v.getLsbD 7) (v == 0) (v.getLsbD 5) false (v.getLsbD 3) (popcount v % 2 == 0) false
      (f.getLsbD 0) := by
  rw [inFlags, and_flagC, sz53p_eq]
  simp [flagsOf_or]

/-! ## The nibble tables of a subtraction (R144, R145)

The index that a table of R145 is asked for is one bit of each operand and of the result. -/

section
variable (a v t : Byte)

theorem nibbleIndex_and_seven :
    nibbleIndex a v t &&& 7 =
      maskIf (a.getLsbD 3) 0b001 ||| maskIf (v.getLsbD 3) 0b010 ||| maskIf (t.getLsbD 3) 0b100 := by
  refine BitVec.eq_of_getLsbD_eq fun k hk => ?_
  simp only [nibbleIndex, BitVec.getLsbD_and, BitVec.getLsbD_or, BitVec.getLsbD_ushiftRight, maskIf_getLsbD]
  interval_cases k <;> simp

theorem nibbleIndex_ushiftRight_and_seven :
    nibbleIndex a v t >>> 4 &&& 7 =
      maskIf (a.getLsbD 7) 0b001 ||| maskIf (v.getLsbD 7) 0b010 ||| maskIf (t.getLsbD 7) 0b100 := by
  refine BitVec.eq_of_getLsbD_eq fun k hk => ?_
  simp only [nibbleIndex, BitVec.getLsbD_and, BitVec.getLsbD_or, BitVec.getLsbD_ushiftRight, maskIf_getLsbD]
  interval_cases k <;> simp

theorem halfCarrySub_nibbleIndex :
    halfCarrySub (nibbleIndex a v t) =
      maskIf (bif a.getLsbD 3 then v.getLsbD 3 && t.getLsbD 3 else v.getLsbD 3 || t.getLsbD 3) flagH := by
  rw [halfCarrySub, nibbleIndex_and_seven]
  cases a.getLsbD 3 <;> cases v.getLsbD 3 <;> cases t.getLsbD 3 <;> rfl

theorem overflowSub_nibbleIndex :
    overflowSub (nibbleIndex a v t >>> 4) =
      maskIf (bif a.getLsbD 7 then !v.getLsbD 7 && !t.getLsbD 7 else v.getLsbD 7 && t.getLsbD 7) flagPV := by
  rw [overflowSub, nibbleIndex_ushiftRight_and_seven]
  cases a.getLsbD 7 <;> cases v.getLsbD 7 <;> cases t.getLsbD 7 <;> rfl

end

/-! ## The negative of a byte (R358) -/

section
variable (a : Byte)

/-- The negative in 9 bits, where a subtraction is made, ends in the negative byte. -/
theorem setWidth_neg_setWidth : (-(a.setWidth 9)).setWidth 8 = -a := by bv_omega

/-- Every byte but 0 borrows when it is taken from 0. -/
theorem neg_setWidth_borrow : (-(a.setWidth 9)).getLsbD 8 = (a != 0) := by
  have borrow : (-(a.setWidth 9)).getLsbD 8 = decide (2 ^ 8 ≤ (-(a.setWidth 9)).toNat) :=
    (BitVec.msb_eq_getLsbD_last _).symm.trans (BitVec.msb_eq_decide _)
  rw [borrow, Bool.eq_iff_iff, decide_eq_true_iff, bne_iff_ne]
  bv_omega

/-- A low nibble that is not 0 has bit 3 in it or in its negative. -/
theorem bit3_or_bit3_neg : (a.getLsbD 3 || (-a).getLsbD 3) = decide (a.toNat % 16 ≠ 0) := by
  rw [Bool.eq_iff_iff]
  simp only [BitVec.getLsbD, Nat.testBit_eq_decide_div_mod_eq, BitVec.toNat_neg, Bool.or_eq_true, decide_eq_true_eq]
  omega

/-- `0x80` is the one negative byte whose negative is negative too. -/
theorem bit7_and_bit7_neg : (a.getLsbD 7 && (-a).getLsbD 7) = (a == 0x80) := by
  rw [Bool.eq_iff_iff, beq_iff_eq]
  simp only [BitVec.getLsbD, Nat.testBit_eq_decide_div_mod_eq, BitVec.toNat_neg, Bool.and_eq_true, decide_eq_true_eq]
  bv_omega

/-- R358: `NEG` is a subtraction from 0. -/
theorem sub8_zero_eq :
    let r := -a
    sub8 0 a false = ⟨r, flagsOf (r.getLsbD 7) (r == 0) (r.getLsbD 5) (decide (a.toNat % 16 ≠ 0)) (r.getLsbD 3)
      (a == 0x80) true (a != 0)⟩ := by
  have difference : (0 : Byte).setWidth 9 - a.setWidth 9 - (BitVec.ofBool false).setWidth 9 = -(a.setWidth 9) := by
    simp
  have half : halfCarrySub (nibbleIndex 0 a (-a)) = maskIf (decide (a.toNat % 16 ≠ 0)) flagH := by
    rw [← bit3_or_bit3_neg, halfCarrySub_nibbleIndex]
    simp
  have overflow : overflowSub (nibbleIndex 0 a (-a) >>> 4) = maskIf (a == 0x80) flagPV := by
    rw [← bit7_and_bit7_neg, overflowSub_nibbleIndex]
    simp
  simp only [sub8, difference, setWidth_neg_setWidth, neg_setWidth_borrow, half, overflow, maskIf_flagC, maskIf_flagH,
    maskIf_flagPV, flagN_eq, sz53_eq, flagsOf_or]
  simp

end

/-! ## The obligations -/

/-- Settles O20: no row of the table names `R`, the one register beside `PC` that the two fetches change, so the byte
that goes out is the old one. -/
theorem portsThroughBC : Obligations.PortsThroughBC := by
  intro s bc v c f g
  refine ⟨fun y x hy => ⟨?inRegC, ?outCReg⟩, ?inC⟩
  case inRegC =>
    exact ran_does2 (inRegC_did _ x) (exec_inRegC s hy) (by simp [g, f, v, c, bc, past_two_zero, inFlags_eq])
      (by simp [v, bc, code_two_zero]) rfl
  case outCReg =>
    exact ran_does2 (outC_did _ _) (exec_outCReg s hy) (by simp [g, bc, past_two_zero])
      (by simp [bc, code_two_zero, fetch2_reg8 s (ne_r_of_r8 hy)]) rfl
  case inC =>
    exact ran_does2 (inC_did _) rfl (by simp [g, f, v, c, bc, past_two_zero, inFlags_eq])
      (by simp [v, bc, code_two_zero]) rfl

/-- Settles O22: the loads go through the word behind the two fetches, and `NEG` is the subtraction from 0. -/
theorem edPairLoadsAndNegate : Obligations.EdPairLoadsAndNegate := by
  intro s nn g a r
  refine ⟨fun p hp => ⟨?stPairAbs, ?ldPairAbs⟩, fun y hy => ?neg⟩
  case stPairAbs =>
    exact ran_does2 (stPairAbs_did _ (rp p)) (exec_stPairAbs s hp) (by simp [g, nn, past_two_two])
      (by simp [nn, code_two_two, wr16]) rfl
  case ldPairAbs =>
    refine ran_does2 (ldPairAbs_did _ (rp p)) (exec_ldPairAbs s hp) ?_ (by simp [nn, code_two_two, State.rd16]) rfl
    exact (set16_with_memptr ..).trans (by simp [g, nn, past_two_two])
  case neg =>
    refine ran_does2 (neg_did _) (exec_neg s hy) ?_ (code_two_zero s).symm rfl
    simp only [a, r, State.fetch2_regs, past_two_zero, Regs.takes, sub8_zero_eq]

end Sys2Proof.Proofs.EdTable
end

/-! # Proofs: block transfer, compare, input and output of the ED table (46_ed_block.md R400 to R420) -/

section
open Sys2Proof Sys2Proof.Machine Sys2Proof.Proofs.FlagFunctions Sys2Proof.Proofs.TwoFetches
open Sys2Proof.Proofs.CbTable Sys2Proof.Proofs.EdTable

namespace Sys2Proof.Proofs.EdBlock

/-! ## The rows of the ED table

The row gives the direction and whether the operation repeats; the column is one shared operation. -/

section
variable {y : Nat} (s : State) (low : 4 ≤ y) (high : y < 8)
include low high

theorem exec_blockLd :
    exec (edTable (opcode 2 y 0)) s = .next (blockLd (blockDir y) (decide (6 ≤ y)) s.fetch2) := by
  interval_cases y <;> rfl

theorem exec_blockCp :
    exec (edTable (opcode 2 y 1)) s = .next (blockCp (blockDir y) (decide (6 ≤ y)) s.fetch2) := by
  interval_cases y <;> rfl

theorem exec_blockIn :
    exec (edTable (opcode 2 y 2)) s = .next (blockIn (blockDir y) (decide (6 ≤ y)) s.fetch2) := by
  interval_cases y <;> rfl

theorem exec_blockOut :
    exec (edTable (opcode 2 y 3)) s = .next (blockOut (blockDir y) (decide (6 ≤ y)) s.fetch2) := by
  interval_cases y <;> rfl

end

/-! ## Going back (R416) -/

section
variable {s t : State} {i : Instr}

/-- `ran_does2` for one iteration of a block operation, which goes back to the first fetch where `again` holds: `g` and
`bus` are those of the iteration that goes on. -/
theorem ran_loop {again again' : Bool} {g g' : Regs} {bus bus' : List BusCycle} {addr addr' : Word}
    (did : Effect.Of
      (if again then
        s.fetch2.does { g with pc := s.fetch2.regs.pc - 2, memptr := s.fetch2.regs.pc - 2 + 1 }
          (bus ++ [.wait addr 5]) 13
       else s.fetch2.does g bus 8) s.fetch2 t)
    (run : exec i s = .next t) (repeats : again = again') (address : addr = addr') (regs : g = g')
    (cycles : .fetch s.regs.pc :: .fetch (s.regs.pc + 1) :: bus = bus') : s.Ran i (s.loop again' g' bus' addr') := by
  subst repeats address regs cycles
  have back : s.fetch2.regs.pc - 2 = s.regs.pc := by simp [BitVec.add_assoc]
  rw [back] at did
  cases again
  case false => exact ran_does2 did run rfl rfl rfl
  case true => exact ran_does2 did run rfl rfl rfl

end

/-! ## The flags of a transfer (R417) -/

/-- Bit 1 of a byte at the place of bit 5, and bit 3 at its own. -/
theorem bits31_eq (v : Byte) :
    bits31 v = flagsOf false false (v.getLsbD 1) false (v.getLsbD 3) false false false := by
  have bit3 : v &&& flag3 = maskIf (v.getLsbD 3) flag3 := and_twoPow v 3
  simp [bits31, bit3, flagsOf, BitVec.or_comm]

theorem and_flagS (v : Byte) : v &&& flagS = flagsOf (v.getLsbD 7) false false false false false false false :=
  (and_twoPow v 7).trans (maskIf_flagS _)

theorem and_flagZ (v : Byte) : v &&& flagZ = flagsOf false (v.getLsbD 6) false false false false false false :=
  (and_twoPow v 6).trans (maskIf_flagZ _)

theorem blockLdFlags_eq (n f : Byte) (more : Bool) :
    blockLdFlags n f more =
      flagsOf (f.getLsbD 7) (f.getLsbD 6) (n.getLsbD 1) false (n.getLsbD 3) more false (f.getLsbD 0) := by
  simp only [blockLdFlags, BitVec.and_or_distrib_left, and_flagC, and_flagZ, and_flagS, maskIf_flagPV, bits31_eq,
    flagsOf_or, Bool.false_or, Bool.or_false]

/-! ## The flags of a compare (R418) -/

/-- The borrow out of bit 3, from that bit of the operands and of the difference. -/
theorem bit3_borrow (a v : Byte) :
    (bif a.getLsbD 3 then v.getLsbD 3 && (a - v).getLsbD 3 else v.getLsbD 3 || (a - v).getLsbD 3) =
      decide (a.toNat % 16 < v.toNat % 16) := by
  rw [Bool.eq_iff_iff, Bool.cond_eq_ite]
  simp only [BitVec.getLsbD, Nat.testBit_eq_decide_div_mod_eq, BitVec.toNat_sub, decide_eq_true_eq]
  split <;> simp only [Bool.and_eq_true, Bool.or_eq_true, decide_eq_true_eq] <;> omega

/-- The table of half-borrows is asked for bit 3 alone. -/
theorem halfCarrySub_nibbleIndex_bit3 (a v : Byte) :
    halfCarrySub (nibbleIndex (a &&& 0x08) (v &&& 0x08) (a - v &&& 0x08)) =
      maskIf (decide (a.toNat % 16 < v.toNat % 16)) flagH := by
  rw [← bit3_borrow, halfCarrySub_nibbleIndex]
  simp

theorem blockCpFlags_eq (a v f : Byte) (more : Bool) :
    let t := a - v
    let half := decide (a.toNat % 16 < v.toNat % 16)
    let n := if half then t - 1 else t
    blockCpFlags a v f more =
      flagsOf (t.getLsbD 7) (t == 0) (n.getLsbD 1) half (n.getLsbD 3) more true (f.getLsbD 0) := by
  have borrow (half : Bool) : (maskIf half flagH &&& flagH != 0) = half := by cases half <;> rfl
  simp only [blockCpFlags, halfCarrySub_nibbleIndex_bit3, borrow]
  simp only [and_flagC, and_flagS, flagN_eq, maskIf_flagPV, maskIf_flagH, maskIf_flagZ, bits31_eq, flagsOf_or,
    Bool.false_or, Bool.or_false]

/-- R418: the bytes differ where their difference is not 0. -/
theorem sub_bne_zero (a v : Byte) : (a - v != 0#8) = (a != v) := by
  rw [Bool.eq_iff_iff, bne_iff_ne, bne_iff_ne]
  exact sub_ne_zero

/-! ## The flags of block input and output (R419, R420) -/

theorem maskIf_flagN (b : Bool) : maskIf b flagN = flagsOf false false false false false false b false := by
  simp [flagsOf]

theorem maskIf_flagH_or_flagC (b : Bool) :
    maskIf b (flagH ||| flagC) = flagsOf false false false b false false false b := by
  cases b <;> rfl

theorem blockIoFlags_eq (t x b : Byte) :
    let k := t.toNat + x.toNat
    blockIoFlags t x b =
      flagsOf (b.getLsbD 7) (b == 0) (b.getLsbD 5) (decide (255 < k)) (b.getLsbD 3)
        (popcount (BitVec.ofNat 8 (k % 8) ^^^ b) % 2 == 0) (t.getLsbD 7) (decide (255 < k)) := by
  simp only [blockIoFlags, maskIf_flagN, maskIf_flagH_or_flagC, parity_eq, sz53_eq, flagsOf_or, Bool.false_or,
    Bool.or_false, gt_iff_lt]

/-! ## The obligations

Each instruction is its operation's `_did` lemma behind two fetches, and one step is one iteration. -/

/-- Settles O24: the forms that repeat are those from `y` = 6, and the fetches change no register that the iteration
reads. -/
theorem blockTransfer : Obligations.BlockTransfer := by
  intro s y low high hl de bc v n f g
  exact ran_loop (blockLd_did _ (blockDir y) _) (exec_blockLd s low high) (by simp [bc]) (by simp [de])
    (by simp [g, f, n, v, hl, de, bc, past_two_zero, blockLdFlags_eq]) (by simp [v, hl, de, code_two_zero])

/-- Settles O25: the model compares `A` with the byte where the statement compares their difference with 0, and the
order in which `HL` and `BC` are written makes no difference. -/
theorem blockCompare : Obligations.BlockCompare := by
  intro s y low high hl bc a v t half n g
  exact ran_loop (blockCp_did _ (blockDir y) _) (exec_blockCp s low high)
    (by simp [bc, t, a, v, hl, sub_bne_zero]) (by simp [hl])
    (by simp [g, n, half, t, a, v, hl, bc, past_two_zero, blockCpFlags_eq, Regs.set16]) (by simp [hl, code_two_zero])

/-- Settles O26: the single forms are the first two rows, where no iteration goes back. -/
theorem blockInputAndOutput : Obligations.BlockInputAndOutput := by
  intro s y hy hl next b flags g inPort input outPort
  have low : 4 ≤ y := by omega
  have high : y < 8 := by omega
  have single : decide (6 ≤ y) = false := decide_eq_false (by omega)
  refine ⟨?input, ?output⟩
  case input =>
    exact ran_loop (again' := false) (blockIn_did _ (blockDir y) _) (exec_blockIn s low high)
      (by rw [single, Bool.false_and]) rfl
      (by simp [g, flags, input, inPort, next, b, hl, past_two_zero, blockIoFlags_eq, Regs.set16])
      (by simp [hl, input, inPort, code_two_zero, State.irWait])
  case output =>
    exact ran_loop (again' := false) (blockOut_did _ (blockDir y) _) (exec_blockOut s low high)
      (by rw [single, Bool.false_and]) rfl
      (by simp [g, flags, outPort, next, b, hl, past_two_zero, blockIoFlags_eq, Regs.set16])
      (by simp [hl, outPort, b, code_two_zero, State.irWait])

end Sys2Proof.Proofs.EdBlock
end

/-! # Proofs: the halves of the index registers, and the byte behind one (47_ddfd.md R438 to R448) -/

section
open Sys2Proof Sys2Proof.Machine Sys2Proof.Proofs.OneFetch Sys2Proof.Proofs.TwoFetches Sys2Proof.Proofs.CbTable
open Sys2Proof.Proofs.EdTable

namespace Sys2Proof.Proofs.IndexTables

/-! ## Register numbers with the halves in the place of `H` and `L` -/

section
variable {ii : Idx} {i : Nat} {x : Reg8}

theorem r8x_eq_r8 (ii : Idx) (h4 : i ≠ 4) (h5 : i ≠ 5) : r8x ii i = r8 i := by
  unfold r8x
  split
  case h_5 => rfl
  all_goals contradiction

theorem lt_of_r8x (h : r8x ii i = some x) : i < 8 := by
  by_cases half : i = 4 ∨ i = 5
  · omega
  · obtain ⟨h4, h5⟩ := not_or.mp half
    exact lt_of_r8 (r8x_eq_r8 ii h4 h5 ▸ h)

theorem ne_r_of_r8x (h : r8x ii i = some x) : x ≠ .r := by
  by_cases half : i = 4 ∨ i = 5
  · obtain rfl | rfl := half <;> cases ii <;> cases h <;> decide
  · obtain ⟨h4, h5⟩ := not_or.mp half
    exact ne_r_of_r8 (r8x_eq_r8 ii h4 h5 ▸ h)

end

/-! ## Operand bytes behind two fetches -/

section
variable (s : State)

@[simp] theorem fetch2_operand : s.fetch2.operand = s.codeByte 2 := by
  simp [State.operand, State.codeByte, State.codeAddr, BitVec.add_assoc]

@[simp] theorem fetch2_imm8_operand : s.fetch2.imm8.operand = s.codeByte 3 := by
  simp [State.operand, State.codeByte, State.codeAddr, BitVec.add_assoc]

@[simp] theorem fetch2_indexed (ii : Idx) : s.fetch2.indexed ii = s.idxAddr ii := by
  simp [State.indexed, State.idxAddr]

theorem codeAddr_two : s.codeAddr 2 = s.regs.pc + 1 + 1 := by
  simp [State.codeAddr, BitVec.add_assoc]

theorem codeAddr_three : s.codeAddr 3 = s.regs.pc + 1 + 1 + 1 := by
  simp [State.codeAddr, BitVec.add_assoc]

theorem past_two_one (g : Regs) : g.past 2 1 = { g with pc := g.pc + 1 + 1 + 1, r := nextR (nextR g.r) } := by
  simp [Regs.past, BitVec.add_assoc]

theorem code_two_one :
    s.code 2 1 = [.fetch s.regs.pc, .fetch (s.regs.pc + 1), s.rd (s.regs.pc + 1 + 1)] := by
  simp [State.code, State.codeAddr, List.range_succ, BitVec.add_assoc]

end

/-! ## The rows of list H -/

section
variable {ii : Idx} {o y z : Nat} {x v : Reg8} (s : State)

/-- R438, R439, R440, R447: the rows that name one register, a half. -/
theorem exec_idxTable_half (half : y = 4 ∨ y = 5) (hy : r8x ii y = some x) :
    exec (idxTable ii (opcode 0 y 4)) s = .next (incReg x s.fetch2) ∧
    exec (idxTable ii (opcode 0 y 5)) s = .next (decReg x s.fetch2) ∧
    exec (idxTable ii (opcode 0 y 6)) s = .next (ldRegImm x s.fetch2) ∧
    ∀ o, o < 8 → exec (idxTable ii (opcode 2 o y)) s = .next (aluReg (aluOf o) x s.fetch2) := by
  obtain rfl | rfl := half <;> cases ii <;> cases hy <;> refine ⟨rfl, rfl, rfl, fun o ho => ?_⟩
  all_goals interval_cases o <;> rfl

/-- R446: a load of a half, the square's rows 4 and 5. -/
theorem exec_ldRegReg_toHalf (half : y = 4 ∨ y = 5) (hy : r8x ii y = some x) (hz : r8x ii z = some v) :
    exec (idxTable ii (opcode 1 y z)) s = .next (ldRegReg x v s.fetch2) := by
  have hz8 := lt_of_r8x hz
  obtain rfl | rfl := half <;> cases ii <;> cases hy
  all_goals interval_cases z <;> cases hz <;> rfl

/-- R446: a load from a half, the square's columns 4 and 5. -/
theorem exec_ldRegReg_ofHalf (half : z = 4 ∨ z = 5) (hy : r8x ii y = some x) (hz : r8x ii z = some v) :
    exec (idxTable ii (opcode 1 y z)) s = .next (ldRegReg x v s.fetch2) := by
  have hy8 := lt_of_r8x hy
  obtain rfl | rfl := half <;> cases ii <;> cases hz
  all_goals interval_cases y <;> cases hy <;> rfl

end

/-! ## The rows of list M -/

section
variable {y : Nat} {x : Reg8} (s : State) (ii : Idx)

theorem exec_incIdx : exec (idxTable ii 0x34) s = .next (incIdx ii s.fetch2) := by cases ii <;> rfl

theorem exec_decIdx : exec (idxTable ii 0x35) s = .next (decIdx ii s.fetch2) := by cases ii <;> rfl

theorem exec_stIdxImm : exec (idxTable ii 0x36) s = .next (stIdxImm ii s.fetch2) := by cases ii <;> rfl

theorem exec_ldRegIdx (hy : r8 y = some x) :
    exec (idxTable ii (opcode 1 y 6)) s = .next (ldRegIdx x ii s.fetch2) := by
  have hy8 := lt_of_r8 hy
  interval_cases y <;> cases hy <;> cases ii <;> rfl

theorem exec_stIdxReg (hy : r8 y = some x) :
    exec (idxTable ii (opcode 1 6 y)) s = .next (stIdxReg x ii s.fetch2) := by
  have hy8 := lt_of_r8 hy
  interval_cases y <;> cases hy <;> cases ii <;> rfl

theorem exec_aluIdx (hy : y < 8) :
    exec (idxTable ii (opcode 2 y 6)) s = .next (aluIdx (aluOf y) ii s.fetch2) := by
  interval_cases y <;> cases ii <;> rfl

end

/-- R441, R442: an instruction behind two fetches that reads the byte at the index register and the displacement, and
writes it back changed. -/
theorem ran_modifyIdx {s : State} {ii : Idx} {i : Instr} {o : AluOut}
    (run : exec i s = .next (modifyMem (s.idxAddr ii) o (s.fetch2.effectiveAddress ii))) :
    s.Ran i (s.does { s.regs.past 2 1 with memptr := s.idxAddr ii, f := o.flags }
      (s.code 2 1 ++ [.wait (s.codeAddr 2) 5] ++ s.readModifyWrite (s.idxAddr ii) 1 o.res) 23) := by
  rw [← fetch2_indexed] at run ⊢
  exact ran_does2 (modifyIdx_did _ o ii) run (by simp [past_two_one])
    (by simp [code_two_one, codeAddr_two, State.readModifyWrite]) rfl

/-! ## The obligations -/

/-- Settles O29: an instruction on a half is the base operation behind two fetches, which change neither half. A load
has a half on its left or on its right. -/
theorem indexHalfForms : Obligations.IndexHalfForms := by
  intro s ii y x hy g inc dec
  have read {i : Nat} {v : Reg8} (hv : r8x ii i = some v) : s.fetch2.reg8 v = s.regs.get8 v :=
    fetch2_reg8 s (ne_r_of_r8x hv)
  have cycles := (code_two_zero s).symm
  refine ⟨fun half => ?oneHalf, fun z v hz half => ?ldRegReg⟩
  case oneHalf =>
    obtain ⟨runInc, runDec, runLd, runAlu⟩ := exec_idxTable_half s half hy
    refine ⟨?inc, ?dec, ?ld, fun o ho => ?alu⟩
    case inc => exact ran_does2 (incReg_did _ x) runInc (by simp [g, inc, past_two_zero, read hy]) cycles rfl
    case dec => exact ran_does2 (decReg_did _ x) runDec (by simp [g, dec, past_two_zero, read hy]) cycles rfl
    case ld =>
      exact ran_does2 (ldRegImm_did _ x) runLd (by simp [past_two_one]) (by simp [code_two_one]) rfl
    case alu =>
      exact ran_does2 (aluReg_did _ (aluOf o) x) (runAlu o ho) (by simp [g, past_two_zero, read hy]) cycles rfl
  case ldRegReg =>
    have run : exec (idxTable ii (opcode 1 y z)) s = .next (ldRegReg x v s.fetch2) := by
      obtain left | right : (y = 4 ∨ y = 5) ∨ (z = 4 ∨ z = 5) := or_assoc.mpr half
      · exact exec_ldRegReg_toHalf s left hy hz
      · exact exec_ldRegReg_ofHalf s right hy hz
    exact ran_does2 (ldRegReg_did _ x v) run (by simp [g, past_two_zero, read hz]) cycles rfl

/-- Settles O30: `PC` is at the displacement byte behind the two fetches, so the operation's address is `idxAddr`. The
loads and stores name a register of `r8`, where `H` and `L` stay and none is `R`. -/
theorem indexedMemoryForms : Obligations.IndexedMemoryForms := by
  intro s ii a m g ea inc dec
  refine ⟨?inc, ?dec, ?stImm, fun y x hy => ⟨?ld, ?st⟩, fun y hy => ?alu⟩
  case inc => exact ran_modifyIdx (by simpa [incIdx] using exec_incIdx s ii)
  case dec => exact ran_modifyIdx (by simpa [decIdx] using exec_decIdx s ii)
  case stImm =>
    exact ran_does2 (stIdxImm_did _ ii) (exec_stIdxImm s ii) (by simp [a, past_two_two])
      (by simp [a, code_two_two, codeAddr_three]) rfl
  case ld =>
    exact ran_does2 (ldRegIdx_did _ x ii) (exec_ldRegIdx s ii hy) (by simp [g, m, a, past_two_one])
      (by simp [ea, a, code_two_one, codeAddr_two]) rfl
  case st =>
    exact ran_does2 (stIdxReg_did _ x ii) (exec_stIdxReg s ii hy) (by simp [g, a, past_two_one])
      (by simp [ea, a, code_two_one, codeAddr_two, fetch2_reg8 s (ne_r_of_r8 hy)]) rfl
  case alu =>
    exact ran_does2 (aluIdx_did _ (aluOf y) ii) (exec_aluIdx s ii hy) (by simp [g, m, a, past_two_one])
      (by simp [ea, a, code_two_one, codeAddr_two]) rfl

end Sys2Proof.Proofs.IndexTables
end

/-! # Proofs: the decoder and the encoder (30_encoding.md R102, R103, R110 to R118) -/

section
open Sys2Proof Sys2Proof.Machine

namespace Sys2Proof.Proofs.Encoding

/-! ## The rows of the seven tables -/

/-- The seven opcode tables of R111 to R115. -/
inductive Table where
  | base
  | cb
  | ed
  | idx (ii : Idx)
  | idxCb (ii : Idx)

/-- The entry of a table. -/
def Table.row : Table → Byte → Instr
  | .base => baseTable
  | .cb => cbTable
  | .ed => edTable
  | .idx ii => idxTable ii
  | .idxCb ii => idxCbTable ii

/-- A statement about every byte is one about the numbers below 256. -/
theorem forall_byte {P : Byte → Prop} (h : ∀ n < 256, P (BitVec.ofNat 8 n)) (op : Byte) : P op := by
  have at_toNat := h op.toNat op.isLt
  rwa [BitVec.ofNat_toNat, BitVec.setWidth_eq] at at_toNat

/-! ## What the encoder writes for a row (R110)

The byte of the row behind the bytes that lead to its table, then the operand bytes. The rows of prefixes are left out:
their encoding is the first byte alone. -/

section
variable (op u v : Byte)

theorem encode_baseTable : encode (baseTable op) u v = op :: [u, v].take (baseTable op).operandBytes := by
  revert op
  refine forall_byte fun n hn => ?_
  interval_cases n <;> rfl

theorem encode_cbTable : encode (cbTable op) u v = [0xCB, op] := by
  revert op
  refine forall_byte fun n hn => ?_
  interval_cases n <;> rfl

theorem encode_edTable : encode (edTable op) u v = 0xED :: op :: [u, v].take (edTable op).operandBytes := by
  revert op
  refine forall_byte fun n hn => ?_
  interval_cases n <;> rfl

theorem encode_ddTable :
    encode (ddTable op) u v =
      if op = 0xCB then [0xCB] else 0xDD :: op :: [u, v].take (ddTable op).operandBytes := by
  revert op
  refine forall_byte fun n hn => ?_
  interval_cases n <;> rfl

theorem encode_fdTable :
    encode (fdTable op) u v =
      if op = 0xCB then [0xCB] else 0xFD :: op :: [u, v].take (fdTable op).operandBytes := by
  revert op
  refine forall_byte fun n hn => ?_
  interval_cases n <;> rfl

theorem encode_ddcbTable : encode (ddcbTable op) u v = [0xDD, 0xCB, u, op] := by
  revert op
  refine forall_byte fun n hn => ?_
  interval_cases n <;> rfl

theorem encode_fdcbTable : encode (fdcbTable op) u v = [0xFD, 0xCB, u, op] := by
  revert op
  refine forall_byte fun n hn => ?_
  interval_cases n <;> rfl

end

theorem wellFormed_row (t : Table) (op : Byte) : (t.row op).wellFormed = true := by
  cases t <;> try cases_type Idx
  all_goals revert op; decide +kernel

theorem operandBytes_row_le (t : Table) (op : Byte) : (t.row op).operandBytes ≤ 2 := by
  cases t <;> try cases_type Idx
  all_goals revert op; decide +kernel

theorem isPrefix_baseTable (op : Byte) :
    (baseTable op).isPrefix = decide (op = 0xCB ∨ op = 0xDD ∨ op = 0xED ∨ op = 0xFD) := by
  revert op; decide +kernel

theorem isPrefix_idxTable (ii : Idx) (op : Byte) :
    (idxTable ii op).isPrefix = decide (op = 0xCB ∨ op = 0xDD ∨ op = 0xED ∨ op = 0xFD) := by
  cases ii <;> revert op <;> decide +kernel

/-! ## Every well-formed instruction is a row -/

/-- The row that the first, second and fourth of some bytes name. -/
def rowAt : List Byte → Instr
  | [] => baseTable 0x00
  | [b] => baseTable b
  | b0 :: b1 :: bs => decodeWindow b0 b1 (bs.getD 1 0)

theorem exists_row_decodeWindow (b0 b1 b3 : Byte) : ∃ (t : Table) (op : Byte), decodeWindow b0 b1 b3 = t.row op := by
  unfold decodeWindow
  split_ifs
  · exact ⟨.cb, b1, rfl⟩
  · exact ⟨.ed, b1, rfl⟩
  · exact ⟨.idxCb .ix, b3, rfl⟩
  · exact ⟨.idx .ix, b1, rfl⟩
  · exact ⟨.idxCb .iy, b3, rfl⟩
  · exact ⟨.idx .iy, b1, rfl⟩
  · exact ⟨.base, b0, rfl⟩

theorem exists_row_rowAt (bs : List Byte) : ∃ (t : Table) (op : Byte), rowAt bs = t.row op := by
  unfold rowAt
  split
  · exact ⟨.base, 0x00, rfl⟩
  · exact ⟨.base, _, rfl⟩
  · exact exists_row_decodeWindow _ _ _

/-! The constructors are taken in two halves, in the order in which they are declared, so that each half is checked
within the default limits. -/

theorem rowAt_encode_firstHalf {i : Instr} (wf : i.wellFormed = true) (half : Nat.blt i.ctorIdx 650 = true) :
    rowAt (encode i 0 0) = i := by
  cases i <;> cases half
  case nopEd | neg | retn | im0 | im1 | im2 => decide +revert +kernel
  case bit0AtIXd | bit1AtIXd | bit2AtIXd | bit3AtIXd | bit4AtIXd | bit5AtIXd | bit6AtIXd | bit7AtIXd |
      bit0AtIYd | bit1AtIYd | bit2AtIYd | bit3AtIYd | bit4AtIYd | bit5AtIYd | bit6AtIYd | bit7AtIYd =>
    decide +revert +kernel
  all_goals try cases_type Idx
  all_goals rfl

theorem rowAt_encode_secondHalf {i : Instr} (half : Nat.blt i.ctorIdx 650 = false) : rowAt (encode i 0 0) = i := by
  cases i <;> cases half
  all_goals rfl

theorem exists_row {i : Instr} (wf : i.wellFormed = true) : ∃ (t : Table) (op : Byte), i = t.row op := by
  have at_encode : rowAt (encode i 0 0) = i := by
    cases half : Nat.blt i.ctorIdx 650
    · exact rowAt_encode_secondHalf half
    · exact rowAt_encode_firstHalf wf half
  exact at_encode ▸ exists_row_rowAt _

/-! ## The decoder on what the encoder writes -/

theorem decode_encode_baseTable (op u v : Byte) : decode (encode (baseTable op) u v) = .ok (baseTable op) := by
  revert op
  refine forall_byte fun n hn => ?_
  interval_cases n <;> rfl

theorem decode_encode_edTable (op u v : Byte) : decode (encode (edTable op) u v) = .ok (edTable op) := by
  revert op
  refine forall_byte fun n hn => ?_
  interval_cases n <;> rfl

theorem decode_encode_ddTable (op u v : Byte) : decode (encode (ddTable op) u v) = .ok (ddTable op) := by
  revert op
  refine forall_byte fun n hn => ?_
  interval_cases n <;> rfl

theorem decode_encode_fdTable (op u v : Byte) : decode (encode (fdTable op) u v) = .ok (fdTable op) := by
  revert op
  refine forall_byte fun n hn => ?_
  interval_cases n <;> rfl

theorem decode_encode_row (t : Table) (op u v : Byte) : decode (encode (t.row op) u v) = .ok (t.row op) := by
  match t with
  | .base => exact decode_encode_baseTable op u v
  | .cb => exact (congrArg decode (encode_cbTable op u v)).trans rfl
  | .ed => exact decode_encode_edTable op u v
  | .idx .ix => exact decode_encode_ddTable op u v
  | .idx .iy => exact decode_encode_fdTable op u v
  | .idxCb .ix => exact (congrArg decode (encode_ddcbTable op u v)).trans rfl
  | .idxCb .iy => exact (congrArg decode (encode_fdcbTable op u v)).trans rfl

/-- Settles O39: a well-formed instruction is a row of a table, and the decoder reads every row back. -/
theorem decodeOfEncode : Obligations.DecodeOfEncode := by
  intro i u v wf
  obtain ⟨t, op, rfl⟩ := exists_row wf
  exact decode_encode_row t op u v
/-! ## Every four bytes -/

theorem codeSize_le_four (b0 b1 : Byte) : codeSize b0 b1 ≤ 4 := by
  have base := operandBytes_row_le .base b0
  have ed := operandBytes_row_le .ed b1
  have dd := operandBytes_row_le (.idx .ix) b1
  have fd := operandBytes_row_le (.idx .iy) b1
  simp only [Table.row, idxTable] at base ed dd fd
  unfold codeSize
  split_ifs <;> omega

/-- Four bytes are enough for every instruction (R117). -/
theorem decode_four_bytes (b0 b1 b2 b3 : Byte) : decode [b0, b1, b2, b3] = .ok (decodeWindow b0 b1 b3) :=
  if_pos (codeSize_le_four b0 b1)

/-! The window and the length, case by case: the base table, and behind the bytes that lead to the other tables. -/

theorem decodeWindow_base {b0 : Byte} (h : (baseTable b0).isPrefix = false) (b1 b3 : Byte) :
    decodeWindow b0 b1 b3 = baseTable b0 ∧ codeSize b0 b1 = 1 + (baseTable b0).operandBytes := by
  rw [isPrefix_baseTable, decide_eq_false_iff_not, not_or, not_or, not_or] at h
  obtain ⟨cb, dd, ed, fd⟩ := h
  simp only [decodeWindow, codeSize, cb, dd, ed, fd, or_self, if_false, and_self]

/-- A first byte is an instruction of the base table or leads to another table. -/
theorem firstByte_cases (b0 : Byte) :
    (baseTable b0).isPrefix = false ∨ b0 = 0xCB ∨ b0 = 0xED ∨ ∃ ii : Idx, b0 = ii.prefixByte := by
  by_cases lead : b0 = 0xCB ∨ b0 = 0xDD ∨ b0 = 0xED ∨ b0 = 0xFD
  · obtain rfl | rfl | rfl | rfl := lead
    · exact .inr (.inl rfl)
    · exact .inr (.inr (.inr ⟨.ix, rfl⟩))
    · exact .inr (.inr (.inl rfl))
    · exact .inr (.inr (.inr ⟨.iy, rfl⟩))
  · exact .inl ((isPrefix_baseTable b0).trans (decide_eq_false lead))

theorem decodeWindow_idx (ii : Idx) (b1 b3 : Byte) :
    decodeWindow ii.prefixByte b1 b3 = if b1 = 0xCB then idxCbTable ii b3 else idxTable ii b1 := by
  cases ii <;> rfl

theorem codeSize_idx {ii : Idx} {b1 : Byte} (h : (idxTable ii b1).isPrefix = false) :
    codeSize ii.prefixByte b1 = 2 + (idxTable ii b1).operandBytes := by
  rw [isPrefix_idxTable, decide_eq_false_iff_not, not_or] at h
  obtain ⟨cb, others⟩ := h
  cases ii
  · exact (if_neg cb).trans (if_neg others)
  · exact (if_neg cb).trans (if_neg others)

theorem encode_idxTable {ii : Idx} {op : Byte} (h : (idxTable ii op).isPrefix = false) (u v : Byte) :
    encode (idxTable ii op) u v = ii.prefixByte :: op :: [u, v].take (idxTable ii op).operandBytes := by
  have ne : op ≠ 0xCB := by
    rintro rfl
    cases ii <;> cases h
  cases ii
  · exact (encode_ddTable op u v).trans (if_neg ne)
  · exact (encode_fdTable op u v).trans (if_neg ne)

theorem encode_idxCbTable (ii : Idx) (op u v : Byte) :
    encode (idxCbTable ii op) u v = [ii.prefixByte, 0xCB, u, op] := by
  cases ii
  · exact encode_ddcbTable op u v
  · exact encode_fdcbTable op u v

/-- Operand bytes behind one opcode byte. -/
theorem take_one_add {n : Nat} (h : n ≤ 2) (b0 b1 b2 b3 : Byte) :
    [b0, b1, b2, b3].take (1 + n) = b0 :: [b1, b2].take n := by
  interval_cases n <;> rfl

/-- Operand bytes behind two opcode bytes. -/
theorem take_two_add (n : Nat) (b0 b1 b2 b3 : Byte) : [b0, b1, b2, b3].take (2 + n) = b0 :: b1 :: [b2, b3].take n := by
  rw [Nat.add_comm]
  rfl

/-- The encoder gives four bytes back, as far as they are the instruction's. -/
theorem encode_decodeWindow (b0 b1 b2 b3 : Byte) (h : (decodeWindow b0 b1 b3).isPrefix = false) :
    ∃ u v, encode (decodeWindow b0 b1 b3) u v = [b0, b1, b2, b3].take (codeSize b0 b1) := by
  obtain lead | rfl | rfl | ⟨ii, rfl⟩ := firstByte_cases b0
  · obtain ⟨window, size⟩ := decodeWindow_base lead b1 b3
    rw [window, size]
    exact ⟨b1, b2, (encode_baseTable b0 b1 b2).trans (take_one_add (operandBytes_row_le .base b0) ..).symm⟩
  · exact ⟨0, 0, encode_cbTable b1 0 0⟩
  · exact ⟨b2, b3, (encode_edTable b1 b2 b3).trans (take_two_add ..).symm⟩
  rw [decodeWindow_idx] at h ⊢
  split_ifs at h ⊢ with cb
  · subst cb
    refine ⟨b2, 0, (encode_idxCbTable ii b3 b2 0).trans ?_⟩
    cases ii <;> rfl
  · rw [codeSize_idx h]
    exact ⟨b2, b3, (encode_idxTable h b2 b3).trans (take_two_add ..).symm⟩

/-- Settles O40: every row is well-formed. -/
theorem everyBytesDecode : Obligations.EveryBytesDecode := by
  intro b0 b1 b2 b3
  refine ⟨_, decode_four_bytes b0 b1 b2 b3, ?_, encode_decodeWindow b0 b1 b2 b3⟩
  obtain ⟨t, op, row⟩ := exists_row_decodeWindow b0 b1 b3
  exact row ▸ wellFormed_row t op

/-- Settles O38: the decoder computes. -/
theorem wordsOfTheSpecDecode : Obligations.WordsOfTheSpecDecode :=
  ⟨rfl, rfl, rfl, rfl, rfl, rfl, rfl, rfl, rfl, rfl, rfl, rfl, rfl, rfl, rfl, rfl, rfl⟩

end Sys2Proof.Proofs.Encoding
end

/-! # Proofs: the meaning of every instruction, and what the shared operations have in common

The dispatch gives each constructor one or two fetches and one shared operation. The rules about the whole machine
follow from what each of the operations does. -/

section
open Sys2Proof Sys2Proof.Machine
open Sys2Proof.Proofs.OneFetch Sys2Proof.Proofs.TwoFetches

namespace Sys2Proof.Proofs.Meanings

/-! ## The shared operations -/

/-- The 8-bit registers that an operation may name as its operand; `idx` says whether the halves of the index registers
are among them. `I` and `R` have instructions of their own. -/
def names8 (idx : Bool) : Reg8 → Bool
  | .ixh => idx
  | .ixl => idx
  | .iyh => idx
  | .iyl => idx
  | .i => false
  | .r => false
  | _ => true

/-- The pairs that an operation may name as its operand. -/
def names16 (idx : Bool) : Reg16 → Bool
  | .ix => idx
  | .iy => idx
  | _ => true

/-- The shared operations that write neither the shadow bank nor a control cell nor `I` or `R`, and read `MEMPTR` only to
write it. -/
inductive SharedOp (idx : Bool) : (State → State) → Prop
  -- loads, stack, exchanges, ports
  | ldRegReg {x y : Reg8} (hx : names8 idx x = true) (hy : names8 idx y = true) : SharedOp idx (ldRegReg x y)
  | ldRegImm {x : Reg8} (hx : names8 idx x = true) : SharedOp idx (ldRegImm x)
  | ldRegMem {x : Reg8} (hx : names8 idx x = true) : SharedOp idx (ldRegMem x)
  | stMemReg {x : Reg8} (hx : names8 idx x = true) : SharedOp idx (stMemReg x)
  | stMemImm : SharedOp idx stMemImm
  | ldAPtr {p : Reg16} (hp : names16 idx p = true) : SharedOp idx (ldAPtr p)
  | ldAAbs : SharedOp idx ldAAbs
  | stAPtr {p : Reg16} (hp : names16 idx p = true) : SharedOp idx (stAPtr p)
  | stAAbs : SharedOp idx stAAbs
  | ldPairImm {p : Reg16} (hp : names16 idx p = true) : SharedOp idx (ldPairImm p)
  | ldPairAbs {p : Reg16} (hp : names16 idx p = true) : SharedOp idx (ldPairAbs p)
  | stPairAbs {p : Reg16} (hp : names16 idx p = true) : SharedOp idx (stPairAbs p)
  | ldSpPair {p : Reg16} (hp : names16 idx p = true) : SharedOp idx (ldSpPair p)
  | pushPair {p : Reg16} (hp : names16 idx p = true) : SharedOp idx (pushPair p)
  | popPair {p : Reg16} (hp : names16 idx p = true) : SharedOp idx (popPair p)
  | exDEHL : SharedOp idx exDEHL
  | exSpPair {p : Reg16} (hp : names16 idx p = true) : SharedOp idx (exSpPair p)
  | inAImm : SharedOp idx inAImm
  | outImmA : SharedOp idx outImmA
  -- arithmetic
  | aluReg {op : AluOp} {x : Reg8} (hx : names8 idx x = true) : SharedOp idx (aluReg op x)
  | aluMem {op : AluOp} : SharedOp idx (aluMem op)
  | aluImm {op : AluOp} : SharedOp idx (aluImm op)
  | incReg {x : Reg8} (hx : names8 idx x = true) : SharedOp idx (incReg x)
  | decReg {x : Reg8} (hx : names8 idx x = true) : SharedOp idx (decReg x)
  | incMem : SharedOp idx incMem
  | decMem : SharedOp idx decMem
  | incPair {p : Reg16} (hp : names16 idx p = true) : SharedOp idx (incPair p)
  | decPair {p : Reg16} (hp : names16 idx p = true) : SharedOp idx (decPair p)
  | addPair {p q : Reg16} (hp : names16 idx p = true) (hq : names16 idx q = true) : SharedOp idx (addPair p q)
  | rotAcc {op : RotOp} : SharedOp idx (rotAcc op)
  | daa : SharedOp idx daa
  | cpl : SharedOp idx cpl
  | scf : SharedOp idx scf
  | ccf : SharedOp idx ccf
  -- control flow
  | nop : SharedOp idx nop
  | leadByte : SharedOp idx leadByte
  | jp : SharedOp idx jp
  | jpCond {cc : Cond} : SharedOp idx (jpCond cc)
  | jpPair {p : Reg16} (hp : names16 idx p = true) : SharedOp idx (jpPair p)
  | jr : SharedOp idx jr
  | jrCond {cc : Cond} : SharedOp idx (jrCond cc)
  | djnz : SharedOp idx djnz
  | call : SharedOp idx call
  | callCond {cc : Cond} : SharedOp idx (callCond cc)
  | ret : SharedOp idx ret
  | retCond {cc : Cond} : SharedOp idx (retCond cc)
  | rst {w : Word} : SharedOp idx (rst w)
  -- bit operations
  | rotReg {op : RotOp} {x : Reg8} (hx : names8 idx x = true) : SharedOp idx (rotReg op x)
  | rotMem {op : RotOp} : SharedOp idx (rotMem op)
  | bitReg {b : Nat} {x : Reg8} (hx : names8 idx x = true) : SharedOp idx (bitReg b x)
  | resReg {b : Nat} {x : Reg8} (hx : names8 idx x = true) : SharedOp idx (resReg b x)
  | resMem {b : Nat} : SharedOp idx (resMem b)
  | setBitReg {b : Nat} {x : Reg8} (hx : names8 idx x = true) : SharedOp idx (setBitReg b x)
  | setMem {b : Nat} : SharedOp idx (setMem b)
  -- the ED table
  | inC : SharedOp idx inC
  | inRegC {x : Reg8} (hx : names8 idx x = true) : SharedOp idx (inRegC x)
  | outCReg {x : Reg8} (hx : names8 idx x = true) : SharedOp idx (outCReg x)
  | outCZero : SharedOp idx outCZero
  | sbcHL {p : Reg16} (hp : names16 idx p = true) : SharedOp idx (sbcHL p)
  | adcHL {p : Reg16} (hp : names16 idx p = true) : SharedOp idx (adcHL p)
  | neg : SharedOp idx neg
  | ldAI : SharedOp idx ldAI
  | ldAR : SharedOp idx ldAR
  | rrd : SharedOp idx rrd
  | rld : SharedOp idx rld
  | blockLd {dir : Dir} {rep : Bool} : SharedOp idx (blockLd dir rep)
  | blockCp {dir : Dir} {rep : Bool} : SharedOp idx (blockCp dir rep)
  | blockIn {dir : Dir} {rep : Bool} : SharedOp idx (blockIn dir rep)
  | blockOut {dir : Dir} {rep : Bool} : SharedOp idx (blockOut dir rep)
  -- the byte at an index register plus a displacement
  | incIdx {ii : Idx} (hi : idx = true) : SharedOp idx (incIdx ii)
  | decIdx {ii : Idx} (hi : idx = true) : SharedOp idx (decIdx ii)
  | stIdxImm {ii : Idx} (hi : idx = true) : SharedOp idx (stIdxImm ii)
  | ldRegIdx {x : Reg8} {ii : Idx} (hx : names8 idx x = true) (hi : idx = true) : SharedOp idx (ldRegIdx x ii)
  | stIdxReg {x : Reg8} {ii : Idx} (hx : names8 idx x = true) (hi : idx = true) : SharedOp idx (stIdxReg x ii)
  | aluIdx {op : AluOp} {ii : Idx} (hi : idx = true) : SharedOp idx (aluIdx op ii)
  | rotIdx {op : RotOp} {ii : Idx} (hi : idx = true) : SharedOp idx (rotIdx op ii)
  | rotIdxReg {op : RotOp} {x : Reg8} {ii : Idx} (hx : names8 idx x = true) (hi : idx = true) :
      SharedOp idx (rotIdxReg op x ii)
  | bitIdx {b : Nat} {ii : Idx} (hi : idx = true) : SharedOp idx (bitIdx b ii)
  | resIdx {b : Nat} {ii : Idx} (hi : idx = true) : SharedOp idx (resIdx b ii)
  | resIdxReg {b : Nat} {x : Reg8} {ii : Idx} (hx : names8 idx x = true) (hi : idx = true) :
      SharedOp idx (resIdxReg b x ii)
  | setIdx {b : Nat} {ii : Idx} (hi : idx = true) : SharedOp idx (setIdx b ii)
  | setIdxReg {b : Nat} {x : Reg8} {ii : Idx} (hx : names8 idx x = true) (hi : idx = true) :
      SharedOp idx (setIdxReg b x ii)

/-- Whether the instruction stands behind `DD` or `FD`: it has two bytes or more, and one of these is the first. -/
def leadsIndex (i : Instr) : Bool :=
  match encode i 0 0 with
  | b0 :: _ :: _ => b0 == 0xDD || b0 == 0xFD
  | _ => false

/-- The operation of an instruction behind its fetches. The instructions with an operation of their own come first. -/
inductive Meaning : Instr → (State → State) → Prop
  | exAF : Meaning .exAFAFAlt exAF
  | exAFPfx {pp : Idx} : Meaning (.exAFAFAltPfx pp) exAF
  | exx : Meaning .exx exx
  | exxPfx {pp : Idx} : Meaning (.exxPfx pp) exx
  | halt : Meaning .halt halt
  | haltPfx {pp : Idx} : Meaning (.haltPfx pp) halt
  | di : Meaning .di di
  | diPfx {pp : Idx} : Meaning (.diPfx pp) di
  | ei : Meaning .ei ei
  | eiPfx {pp : Idx} : Meaning (.eiPfx pp) ei
  | retn {y : BitVec 3} : Meaning (.retn y) retn
  | reti : Meaning .reti reti
  | im0 {y : BitVec 3} : Meaning (.im0 y) (setMode .im0)
  | im1 {y : BitVec 3} : Meaning (.im1 y) (setMode .im1)
  | im2 {y : BitVec 3} : Meaning (.im2 y) (setMode .im2)
  | ldIA : Meaning .ldIA ldIA
  | ldRA : Meaning .ldRA ldRA
  | bit0 : Meaning .bit0AtHL (bitMem 0)
  | bit1 : Meaning .bit1AtHL (bitMem 1)
  | bit2 : Meaning .bit2AtHL (bitMem 2)
  | bit3 : Meaning .bit3AtHL (bitMem 3)
  | bit4 : Meaning .bit4AtHL (bitMem 4)
  | bit5 : Meaning .bit5AtHL (bitMem 5)
  | bit6 : Meaning .bit6AtHL (bitMem 6)
  | bit7 : Meaning .bit7AtHL (bitMem 7)
  | shared {i : Instr} {f : State → State} (h : SharedOp (leadsIndex i) f) : Meaning i f

/-- The fetches of an opcode. -/
inductive Fetches : (State → State) → Prop
  | one : Fetches State.fetch
  | two : Fetches State.fetch2

/-- What the dispatch gives an instruction: fetches, then an operation. -/
def Dispatched (i : Instr) : Prop :=
  ∃ pre f, Fetches pre ∧ Meaning i f ∧ ∀ s, exec i s = .next (f (pre s))

/-! The constructors are taken in two halves, in the order in which they are declared, so that each half is checked
within the default limits. -/

theorem dispatched_firstHalf {i : Instr} (half : Nat.blt i.ctorIdx 825 = true) : Dispatched i := by
  cases i <;> cases half
  all_goals refine ⟨_, _, ?_, ?_, fun _ => rfl⟩
  all_goals with_reducible constructor
  all_goals with_reducible constructor
  all_goals rfl

theorem dispatched_secondHalf {i : Instr} (half : Nat.blt i.ctorIdx 825 = false) : Dispatched i := by
  cases i <;> cases half
  all_goals refine ⟨_, _, ?_, ?_, fun _ => rfl⟩
  all_goals with_reducible constructor
  all_goals with_reducible constructor
  all_goals rfl

theorem dispatched (i : Instr) : Dispatched i := by
  cases half : Nat.blt i.ctorIdx 825
  · exact dispatched_secondHalf half
  · exact dispatched_firstHalf half

/-- The unprefixed tables (R118). -/
theorem leadsIndex_eq_false {i : Instr} {op : Byte} (h : i ∈ [baseTable op, cbTable op, edTable op]) :
    leadsIndex i = false := by
  simp only [List.mem_cons, List.not_mem_nil, or_false] at h
  obtain rfl | rfl | rfl := h
  all_goals revert op; decide +kernel

/-! ## What the operations cannot see

`m` changes cells that no operation reads or writes, but perhaps `MEMPTR`, which is written alone. Then running an
operation after `m` leaves what running it before leaves, as far as `m` does not hide it. -/

/-- `m` hides cells from the operations: they read the same behind it, and it commutes with what they write. `setM` is
what `m` leaves of a write of `MEMPTR`. -/
structure Hides (idx : Bool) (m : State → State) (setM : Word → State → State) : Prop where
  idem : ∀ s, m (m s) = m s
  reg8 : ∀ s x, names8 idx x = true → (m s).reg8 x = s.reg8 x
  reg16 : ∀ s p, names16 idx p = true → (m s).reg16 p = s.reg16 p
  a : ∀ s, (m s).regs.a = s.regs.a
  f : ∀ s, (m s).regs.f = s.regs.f
  b : ∀ s, (m s).regs.b = s.regs.b
  c : ∀ s, (m s).regs.c = s.regs.c
  sp : ∀ s, (m s).regs.sp = s.regs.sp
  pc : ∀ s, (m s).regs.pc = s.regs.pc
  i : ∀ s, (m s).regs.i = s.regs.i
  r : ∀ s, (m s).regs.r = s.regs.r
  memptr : ∀ s t w, setM ((m s).regs.memptr + w) t = setM (s.regs.memptr + w) t
  iff2 : ∀ s, (m s).ctl.iff2 = s.ctl.iff2
  platform : ∀ s, (m s).platform = s.platform
  peek : ∀ s a, (m s).peek a = s.peek a
  portByte : ∀ s q, (m s).portByte q = s.portByte q
  setReg8 : ∀ s x v, names8 idx x = true → m (s.setReg8 x v) = (m s).setReg8 x v
  setReg16 : ∀ s p w, names16 idx p = true → m (s.setReg16 p w) = (m s).setReg16 p w
  setA : ∀ s v, m (s.setA v) = (m s).setA v
  setF : ∀ s v, m (s.setF v) = (m s).setF v
  setSp : ∀ s w, m (s.setSp w) = (m s).setSp w
  setPc : ∀ s w, m (s.setPc w) = (m s).setPc w
  refresh : ∀ s, m s.refresh = (m s).refresh
  setMemptr : ∀ s w, m (s.setMemptr w) = setM w (m s)
  contend : ∀ s a d n, m (s.contend a d n) = (m s).contend a d n
  memRead : ∀ s a, m (s.memRead a) = (m s).memRead a
  memWrite : ∀ s a v, m (s.memWrite a v) = (m s).memWrite a v
  portRead : ∀ s q, m (s.portRead q) = (m s).portRead q
  portWrite : ∀ s q v, m (s.portWrite q v) = (m s).portWrite q v

theorem names8_b (idx : Bool) : names8 idx .b = true := by cases idx <;> rfl
theorem names16_bc (idx : Bool) : names16 idx .bc = true := by cases idx <;> rfl
theorem names16_de (idx : Bool) : names16 idx .de = true := by cases idx <;> rfl
theorem names16_hl (idx : Bool) : names16 idx .hl = true := by cases idx <;> rfl
theorem names16_idxReg (ii : Idx) : names16 true (idxReg ii) = true := by
  cases ii <;> rfl
theorem sharedOp_hides {idx : Bool} {m : State → State} {setM : Word → State → State} {f : State → State}
    (op : SharedOp idx f) (h : Hides idx m setM) (s : State) : m (f (m s)) = m (f s) := by
  cases op
  all_goals try subst ‹idx = true›
  all_goals simp only [ldRegReg, ldRegImm, ldRegMem, stMemReg, stMemImm, ldAPtr, ldAAbs, stAPtr, stAAbs, ldPairImm,
    ldPairAbs, stPairAbs, ldSpPair, pushPair, popPair, exDEHL, exSpPair, inAImm, outImmA, aluReg, aluMem, aluImm,
    accumulate, incReg, decReg, incMem, decMem, modifyMem, incPair, decPair, addPair, rotAcc, daa, cpl, scf, ccf, nop,
    leadByte, jp, jpCond, jpPair, jr, jrCond, relJump, djnz, call, callCond, callOperand, callTaken, ret, retCond, rst,
    rotReg, rotMem, bitReg, resReg, resMem, setBitReg, setMem, inC, inRegC, outCReg, outCZero, outC, sbcHL, adcHL, neg,
    ldAI, ldAR, ldAFrom, rrd, rld, rotateDigit, blockLd, blockCp, blockIn, blockOut, repeatFrom, incIdx, decIdx,
    stIdxImm, ldRegIdx, stIdxReg, aluIdx, rotIdx, rotIdxReg, bitIdx, resIdx, resIdxReg, setIdx, setIdxReg, writeIdx,
    rotIdxOut, State.indexed, State.effectiveAddress, State.indexedCbOperand, State.returnToCaller, State.push16,
    State.pop16, State.imm8, State.imm16, State.operandRead, State.operand, State.operand16, State.peek16, State.top16,
    State.memRead16, State.memWrite16, State.advance, State.ir]
  all_goals simp [*, apply_ite m, h.idem, h.reg8, h.reg16, h.a, h.f, h.b, h.c, h.sp, h.pc, h.i, h.r, h.memptr, h.iff2,
    h.platform, h.peek, h.portByte, h.setReg8, h.setReg16, h.setA, h.setF, h.setSp, h.setPc, h.setMemptr, h.contend,
    h.memRead, h.memWrite, h.portRead, h.portWrite, names8_b, names16_bc, names16_de, names16_hl, names16_idxReg]

/-- An effect that leaves the shadow bank, the control cells, `I` and `R`, and, but behind `DD` or `FD`, the index
registers; and takes 15 T-states at most where nothing is contended. -/
structure Plain (idx : Bool) (s : State) (e : Effect) : Prop where
  shadow : e.shadow = s.shadow
  ctl : e.ctl = s.ctl
  i : e.regs.i = s.regs.i
  r : e.regs.r = s.regs.r
  index : idx = false →
    e.regs.ixh = s.regs.ixh ∧ e.regs.ixl = s.regs.ixl ∧ e.regs.iyh = s.regs.iyh ∧ e.regs.iyl = s.regs.iyl
  brief : e.tstates ≤ 15

@[simp] theorem plain_does (idx : Bool) (s : State) (g : Regs) (bus : List BusCycle) (n : Int) :
    Plain idx s (s.does g bus n) ↔ g.i = s.regs.i ∧ g.r = s.regs.r ∧
      (idx = false → g.ixh = s.regs.ixh ∧ g.ixl = s.regs.ixl ∧ g.iyh = s.regs.iyh ∧ g.iyl = s.regs.iyl) ∧ n ≤ 15 :=
  ⟨fun h => ⟨h.i, h.r, h.index, h.brief⟩, fun ⟨i, r, index, brief⟩ => ⟨rfl, rfl, i, r, index, brief⟩⟩

theorem Plain.ite {idx : Bool} {s : State} {c : Prop} [Decidable c] {e e' : Effect} (h : Plain idx s e)
    (h' : Plain idx s e') : Plain idx s (if c then e else e') := by
  split <;> assumption

theorem set8_keeps {idx : Bool} {x : Reg8} (hx : names8 idx x = true) (g : Regs) (v : Byte) :
    (g.set8 x v).i = g.i ∧ (g.set8 x v).r = g.r ∧ (idx = false →
      (g.set8 x v).ixh = g.ixh ∧ (g.set8 x v).ixl = g.ixl ∧ (g.set8 x v).iyh = g.iyh ∧ (g.set8 x v).iyl = g.iyl) := by
  cases x <;> simp_all [names8, Regs.set8]

theorem set16_keeps {idx : Bool} {p : Reg16} (hp : names16 idx p = true) (g : Regs) (w : Word) :
    (g.set16 p w).i = g.i ∧ (g.set16 p w).r = g.r ∧ (idx = false →
      (g.set16 p w).ixh = g.ixh ∧ (g.set16 p w).ixl = g.ixl ∧ (g.set16 p w).iyh = g.iyh ∧ (g.set16 p w).iyl = g.iyl) := by
  cases p <;> simp_all [names16, Regs.set16]

theorem sharedOp_did {idx : Bool} {f : State → State} (op : SharedOp idx f) (s : State) :
    ∃ e : Effect, e.Of s (f s) ∧ Plain idx s e := by
  cases op with
  | ldRegReg hx _ => exact ⟨_, ldRegReg_did s _ _, by simp +contextual [set8_keeps hx]⟩
  | ldRegImm hx => exact ⟨_, ldRegImm_did s _, by simp +contextual [set8_keeps hx]⟩
  | ldRegMem hx => exact ⟨_, ldRegMem_did s _, by simp +contextual [set8_keeps hx]⟩
  | stMemReg _ => exact ⟨_, stMemReg_did s _, by simp⟩
  | stMemImm => exact ⟨_, stMemImm_did s, by simp⟩
  | ldAPtr _ => exact ⟨_, ldAPtr_did s _, by simp⟩
  | ldAAbs => exact ⟨_, ldAAbs_did s, by simp⟩
  | stAPtr _ => exact ⟨_, stAPtr_did s _, by simp⟩
  | stAAbs => exact ⟨_, stAAbs_did s, by simp⟩
  | ldPairImm hp => exact ⟨_, ldPairImm_did s _, by simp +contextual [set16_keeps hp]⟩
  | ldPairAbs hp => exact ⟨_, ldPairAbs_did s _, by simp +contextual [set16_keeps hp]⟩
  | stPairAbs _ => exact ⟨_, stPairAbs_did s _, by simp⟩
  | ldSpPair _ => exact ⟨_, ldSpPair_did s _, by simp⟩
  | pushPair _ => exact ⟨_, pushPair_did s _, by simp⟩
  | popPair hp => exact ⟨_, popPair_did s _, by simp +contextual [set16_keeps hp]⟩
  | exDEHL => exact ⟨_, exDEHL_did s, by simp [Regs.set16]⟩
  | exSpPair hp => exact ⟨_, exSpPair_did s _, by simp +contextual [set16_keeps hp]⟩
  | inAImm => exact ⟨_, inAImm_did s, by simp⟩
  | outImmA => exact ⟨_, outImmA_did s, by simp⟩
  | aluReg _ => exact ⟨_, aluReg_did s _ _, by simp [Regs.takes]⟩
  | aluMem => exact ⟨_, aluMem_did s _, by simp [Regs.takes]⟩
  | aluImm => exact ⟨_, aluImm_did s _, by simp [Regs.takes]⟩
  | incReg hx => exact ⟨_, incReg_did s _, by simp +contextual [set8_keeps hx]⟩
  | decReg hx => exact ⟨_, decReg_did s _, by simp +contextual [set8_keeps hx]⟩
  | incMem => exact ⟨_, modifyMem_did s _ _, by simp⟩
  | decMem => exact ⟨_, modifyMem_did s _ _, by simp⟩
  | incPair hp => exact ⟨_, incPair_did s _, by simp +contextual [set16_keeps hp]⟩
  | decPair hp => exact ⟨_, decPair_did s _, by simp +contextual [set16_keeps hp]⟩
  | addPair hp _ => exact ⟨_, addPair_did s _ _, by simp +contextual [set16_keeps hp]⟩
  | rotAcc => exact ⟨_, rotAcc_did s _, by simp [Regs.takes]⟩
  | daa => exact ⟨_, daa_did s, by simp [Regs.takes]⟩
  | cpl => exact ⟨_, cpl_did s, by simp [Regs.takes]⟩
  | scf => exact ⟨_, scf_did s, by simp⟩
  | ccf => exact ⟨_, ccf_did s, by simp⟩
  | nop => exact ⟨_, nop_did s, by simp⟩
  | leadByte => exact ⟨_, nop_did s, by simp⟩
  | jp => exact ⟨_, jp_did s, by simp [Regs.jump]⟩
  | jpCond => exact ⟨_, jpCond_did s _, by simp⟩
  | jpPair _ => exact ⟨_, jpPair_did s _, by simp⟩
  | jr => exact ⟨_, relJump_did s true, .ite (by simp [Regs.jump]) (by simp)⟩
  | jrCond => exact ⟨_, relJump_did s _, .ite (by simp [Regs.jump]) (by simp)⟩
  | djnz => exact ⟨_, djnz_did s, .ite (by simp [Regs.jump]) (by simp)⟩
  | call => exact ⟨_, call_did s, by simp [Regs.jump]⟩
  | callCond => exact ⟨_, callCond_did s _, .ite (by simp [Regs.jump]) (by simp)⟩
  | ret => exact ⟨_, ret_did s, by simp [Regs.jump]⟩
  | retCond => exact ⟨_, retCond_did s _, .ite (by simp [Regs.jump]) (by simp)⟩
  | rst => exact ⟨_, rst_did s _, by simp [Regs.jump]⟩
  | rotReg hx => exact ⟨_, rotReg_did s _ _, by simp +contextual [set8_keeps hx]⟩
  | rotMem => exact ⟨_, modifyMem_did s _ _, by simp⟩
  | bitReg _ => exact ⟨_, bitReg_did s _ _, by simp⟩
  | resReg hx => exact ⟨_, resReg_did s _ _, by simp +contextual [set8_keeps hx]⟩
  | resMem => exact ⟨_, modifyMem_did s _ _, by simp⟩
  | setBitReg hx => exact ⟨_, setBitReg_did s _ _, by simp +contextual [set8_keeps hx]⟩
  | setMem => exact ⟨_, modifyMem_did s _ _, by simp⟩
  | inC => exact ⟨_, inC_did s, by simp⟩
  | inRegC hx => exact ⟨_, inRegC_did s _, by simp +contextual [set8_keeps hx]⟩
  | outCReg _ => exact ⟨_, outC_did s _, by simp⟩
  | outCZero => exact ⟨_, outC_did s _, by simp⟩
  | sbcHL _ => exact ⟨_, sbcHL_did s _, by simp [Regs.set16]⟩
  | adcHL _ => exact ⟨_, adcHL_did s _, by simp [Regs.set16]⟩
  | neg => exact ⟨_, neg_did s, by simp [Regs.takes]⟩
  | ldAI => exact ⟨_, ldAFrom_did s _, by simp⟩
  | ldAR => exact ⟨_, ldAFrom_did s _, by simp⟩
  | rrd => exact ⟨_, rotateDigit_did s _ _, by simp⟩
  | rld => exact ⟨_, rotateDigit_did s _ _, by simp⟩
  | blockLd => exact ⟨_, blockLd_did s _ _, .ite (by simp [Regs.set16]) (by simp [Regs.set16])⟩
  | blockCp => exact ⟨_, blockCp_did s _ _, .ite (by simp [Regs.set16]) (by simp [Regs.set16])⟩
  | blockIn => exact ⟨_, blockIn_did s _ _, .ite (by simp [Regs.set16]) (by simp [Regs.set16])⟩
  | blockOut => exact ⟨_, blockOut_did s _ _, .ite (by simp [Regs.set16]) (by simp [Regs.set16])⟩
  | incIdx hi => exact ⟨_, modifyIdx_did s _ _, by simp [hi]⟩
  | decIdx hi => exact ⟨_, modifyIdx_did s _ _, by simp [hi]⟩
  | stIdxImm hi => exact ⟨_, stIdxImm_did s _, by simp [hi]⟩
  | ldRegIdx hx hi => exact ⟨_, ldRegIdx_did s _ _, by simp +contextual [set8_keeps hx, hi]⟩
  | stIdxReg _ hi => exact ⟨_, stIdxReg_did s _ _, by simp [hi]⟩
  | aluIdx hi => exact ⟨_, aluIdx_did s _ _, by simp [hi, Regs.takes]⟩
  | rotIdx hi => exact ⟨_, writeIdx_did s _ _, by simp [hi]⟩
  | rotIdxReg hx hi => exact ⟨_, writeIdxReg_did s _ _ _, by simp +contextual [set8_keeps hx, hi]⟩
  | bitIdx hi => exact ⟨_, bitIdx_did s _ _, by simp [hi]⟩
  | resIdx hi => exact ⟨_, writeIdx_did s _ _, by simp [hi]⟩
  | resIdxReg hx hi => exact ⟨_, writeIdxReg_did s _ _ _, by simp +contextual [set8_keeps hx, hi]⟩
  | setIdx hi => exact ⟨_, writeIdx_did s _ _, by simp [hi]⟩
  | setIdxReg hx hi => exact ⟨_, writeIdxReg_did s _ _ _, by simp +contextual [set8_keeps hx, hi]⟩

theorem sharedOp_runs {idx : Bool} {f : State → State} (op : SharedOp idx f) (s : State) : s.Runs (f s) := by
  cases op <;> simp

/-! ## Every operation -/


theorem meaning_did {i : Instr} {f : State → State} (h : Meaning i f) (s : State) :
    ∃ e : Effect, e.Of s (f s) ∧ e.tstates ≤ 15 := by
  cases h with
  | shared op =>
    obtain ⟨e, did, plain⟩ := sharedOp_did op s
    exact ⟨e, did, plain.brief⟩
  | exAF => exact ⟨_, exAF_did s, by simp [State.does]⟩
  | exAFPfx => exact ⟨_, exAF_did s, by simp [State.does]⟩
  | exx => exact ⟨_, exx_did s, by simp [State.does]⟩
  | exxPfx => exact ⟨_, exx_did s, by simp [State.does]⟩
  | halt => exact ⟨_, halt_did s, by simp [State.does]⟩
  | haltPfx => exact ⟨_, halt_did s, by simp [State.does]⟩
  | di => exact ⟨_, di_did s, by simp [State.does]⟩
  | diPfx => exact ⟨_, di_did s, by simp [State.does]⟩
  | ei => exact ⟨_, ei_did s, by simp [State.does]⟩
  | eiPfx => exact ⟨_, ei_did s, by simp [State.does]⟩
  | retn => exact ⟨_, returnFromInterrupt_did s, by simp [State.does]⟩
  | reti => exact ⟨_, returnFromInterrupt_did s, by simp [State.does]⟩
  | im0 => exact ⟨_, setMode_did s _, by simp [State.does]⟩
  | im1 => exact ⟨_, setMode_did s _, by simp [State.does]⟩
  | im2 => exact ⟨_, setMode_did s _, by simp [State.does]⟩
  | ldIA => exact ⟨_, ldIA_did s, by simp [State.does]⟩
  | ldRA => exact ⟨_, ldRA_did s, by simp [State.does]⟩
  | bit0 | bit1 | bit2 | bit3 | bit4 | bit5 | bit6 | bit7 => exact ⟨_, bitMem_did s _, by simp [State.does]⟩

theorem meaning_runs {i : Instr} {f : State → State} (h : Meaning i f) (s : State) : s.Runs (f s) := by
  cases h with
  | shared op => exact sharedOp_runs op s
  | _ => simp

theorem busTrace_suffix (p : Platform) (bus : List BusCycle) (c : Int) (before : List BusEvent) :
    before <:+ busTrace p bus c before := by
  induction bus generalizing c before with
  | nil => exact List.suffix_rfl
  | cons b bs ih => exact List.IsSuffix.trans (by cases b <;> simp [BusCycle.noted]) (ih _ _)

/-! ## Every instruction -/

theorem le_contendedUnits_one (p : Platform) (d : Nat) (c : Int) : c + d ≤ p.contendedUnits d 1 c := by
  simp only [Platform.contendedUnits]
  omega

/-- One unit of a bus cycle takes its T-states at least. -/
theorem add_le_afterContend_one (p : Platform) (a : Word) (d : Nat) (c : Int) : c + d ≤ p.afterContend a d 1 c := by
  unfold Platform.afterContend
  split
  · exact le_contendedUnits_one p d c
  · omega

theorem fetches_runs {pre : State → State} (h : Fetches pre) (s : State) : s.Runs (pre s) := by
  cases h with
  | one => exact .fetch_self s
  | two => exact .fetch2_self s

theorem fetches_bus {pre : State → State} (h : Fetches pre) (s : State) : (pre s).bus = s.bus := by
  cases h <;> rfl

theorem fetch_least (s : State) : s.cycles + 4 ≤ s.fetch.cycles :=
  add_le_afterContend_one s.platform s.regs.pc 4 s.cycles

theorem fetches_least {pre : State → State} (h : Fetches pre) (s : State) : s.cycles + 4 ≤ (pre s).cycles := by
  cases h with
  | one => exact fetch_least s
  | two => exact (fetch_least s).trans (State.Runs.fetch_self s.fetch).cycles

theorem fetch_uncontended {s : State} (h : s.Uncontended) : s.fetch.cycles = s.cycles + 4 :=
  h.afterContend s.regs.pc 4 1 s.cycles

theorem uncontended_of_runs {s t : State} (h : s.Uncontended) (runs : s.Runs t) : t.Uncontended := by
  unfold State.Uncontended at h ⊢
  rwa [runs.platform]

theorem fetches_brief {pre : State → State} (h : Fetches pre) {s : State} (none : s.Uncontended) :
    (pre s).cycles ≤ s.cycles + 8 := by
  have first := fetch_uncontended none
  cases h with
  | one => omega
  | two =>
    have second := fetch_uncontended (uncontended_of_runs none (.fetch_self s))
    show s.fetch.fetch.cycles ≤ _
    omega

/-- What a step's instruction, or an acceptance, leaves: the trace only grows, and 4 T-states pass at least. -/
structure Passes (s t : State) : Prop where
  runs : s.Runs t
  suffix : s.bus <:+ t.bus
  least : s.cycles + 4 ≤ t.cycles

theorem Passes.trans {s t u : State} (h : Passes s t) (k : Passes t u) : Passes s u where
  runs := h.runs.trans k.runs
  suffix := h.suffix.trans k.suffix
  least := by
    have := h.least
    have := k.least
    omega

theorem passes_of_dispatched {i : Instr} {pre f : State → State} (fetches : Fetches pre) (meaning : Meaning i f)
    (s : State) : Passes s (f (pre s)) where
  runs := (fetches_runs fetches s).trans (meaning_runs meaning _)
  suffix := by
    obtain ⟨e, did, -⟩ := meaning_did meaning (pre s)
    rw [did.trace, fetches_bus fetches]
    exact busTrace_suffix ..
  least := Int.le_trans (fetches_least fetches s) (meaning_runs meaning _).cycles

/-- Every instruction completes. -/
theorem exec_completes (i : Instr) (s : State) : ∃ t, exec i s = .next t ∧ Passes s t := by
  obtain ⟨pre, f, fetches, meaning, run⟩ := dispatched i
  exact ⟨_, run s, passes_of_dispatched fetches meaning s⟩

theorem passes_of_exec {i : Instr} {s t : State} (run : exec i s = .next t) : Passes s t := by
  obtain ⟨t', run', passes⟩ := exec_completes i s
  obtain rfl := Host.Outcome.next.inj (run.symm.trans run')
  exact passes

/-- No instruction takes longer than 23 T-states where nothing is contended. -/
theorem exec_brief {i : Instr} {s t : State} (none : s.Uncontended) (run : exec i s = .next t) :
    t.cycles ≤ s.cycles + 23 := by
  obtain ⟨pre, f, fetches, meaning, run'⟩ := dispatched i
  obtain rfl := Host.Outcome.next.inj (run.symm.trans (run' s))
  obtain ⟨e, did, brief⟩ := meaning_did meaning (pre s)
  have := did.tstates (uncontended_of_runs none (fetches_runs fetches s))
  have := fetches_brief fetches none
  omega

/-! ## Cells that no instruction sees, or that one family alone does -/

/-- An operation behind `m` leaves what `m` makes of its own outcome, where its outcome is one that `m` leaves alone. -/
theorem commutes_of_settled {m f : State → State} {s : State} (blind : m (f (m s)) = m (f s))
    (settled : m (f (m s)) = f (m s)) : f (m s) = m (f s) := settled.symm.trans blind

theorem fetches_commute {pre m : State → State} (h : Fetches pre) (fetch : ∀ s, State.fetch (m s) = m s.fetch)
    (s : State) :
    pre (m s) = m (pre s) := by
  cases h with
  | one => exact fetch s
  | two => exact (congrArg State.fetch (fetch s)).trans (fetch s.fetch)

/-- An instruction that stands unprefixed and behind both index prefixes. -/
theorem base_mem_rows (op : Byte) : baseTable op ∈ [baseTable op, ddTable op, fdTable op] := .head _

theorem idx_mem_rows {op : Byte} {i : Instr} (pp : Idx) (row : i = idxTable pp op) :
    i ∈ [baseTable op, ddTable op, fdTable op] := by
  subst row
  cases pp
  · exact .tail _ (.head _)
  · exact .tail _ (.tail _ (.head _))

theorem fetches_reg16 {pre : State → State} (h : Fetches pre) (s : State) (p : Reg16) :
    (pre s).reg16 p = s.reg16 p := by
  cases h with
  | one => exact fetch_reg16 s p
  | two => exact fetch2_reg16 s p

/-! The shadow bank (10_state.md R24). -/

theorem hides_shadow (idx : Bool) (h : Shadow) : Hides idx (·.setShadow h) fun w s => s.setMemptr w := by
  constructor <;> intros <;> rfl

theorem setShadow_of_shadow {s : State} {h : Shadow} (same : s.shadow = h) : s.setShadow h = s := by
  subst same
  rfl

theorem meaning_shadow {i : Instr} {f : State → State} (meaning : Meaning i f)
    (noExAF : i ∉ [baseTable 0x08, ddTable 0x08, fdTable 0x08])
    (noExx : i ∉ [baseTable 0xD9, ddTable 0xD9, fdTable 0xD9]) (s : State) (h : Shadow) :
    (f s).shadow = s.shadow ∧ f (s.setShadow h) = (f s).setShadow h := by
  cases meaning with
  | shared op =>
    have keeps (u : State) : (f u).shadow = u.shadow := by
      obtain ⟨e, did, plain⟩ := sharedOp_did op u
      exact did.shadow.trans plain.shadow
    refine ⟨keeps s, commutes_of_settled (m := (·.setShadow h)) (sharedOp_hides op (hides_shadow _ h) s) ?_⟩
    exact setShadow_of_shadow (keeps _)
  | exAF => exact absurd (base_mem_rows 0x08) noExAF
  | @exAFPfx pp => exact absurd (idx_mem_rows pp (by cases pp <;> rfl)) noExAF
  | exx => exact absurd (base_mem_rows 0xD9) noExx
  | @exxPfx pp => exact absurd (idx_mem_rows pp (by cases pp <;> rfl)) noExx
  | halt | haltPfx => exact ⟨(halt_did s).shadow, rfl⟩
  | di | diPfx => exact ⟨(di_did s).shadow, rfl⟩
  | ei | eiPfx => exact ⟨(ei_did s).shadow, rfl⟩
  | retn | reti => exact ⟨(returnFromInterrupt_did s).shadow, rfl⟩
  | im0 | im1 | im2 => exact ⟨(setMode_did s _).shadow, rfl⟩
  | ldIA => exact ⟨(ldIA_did s).shadow, rfl⟩
  | ldRA => exact ⟨(ldRA_did s).shadow, rfl⟩
  | bit0 | bit1 | bit2 | bit3 | bit4 | bit5 | bit6 | bit7 => exact ⟨(bitMem_did s _).shadow, rfl⟩

/-- Settles O54: no operation but `exAF` and `exx` reads or writes the shadow bank. -/
theorem shadowBankIsInert : Obligations.ShadowBankIsInert := by
  intro i s h no
  obtain ⟨pre, f, fetches, meaning, run⟩ := dispatched i
  obtain ⟨keeps, commutes⟩ := meaning_shadow meaning (fun mem => no (List.mem_append_left _ mem))
    (fun mem => no (List.mem_append_right [_, _, _] mem)) (pre s) h
  refine ⟨f (pre s), run s, keeps.trans ?_, ?_⟩
  · cases fetches <;> rfl
  · rw [run, fetches_commute (m := (·.setShadow h)) fetches (fun _ => rfl), commutes]

/-! The request latches (60_exceptions.md R502). -/

/-- Both request latches set as given. -/
def latched (p q : Bool) (s : State) : State := s.setCtl { s.ctl with interruptPending := p, nmiPending := q }

theorem hides_latches (idx p q : Bool) : Hides idx (latched p q) fun w s => s.setMemptr w := by
  constructor <;> intros <;> rfl

theorem meaning_latches {i : Instr} {f : State → State} (meaning : Meaning i f) (s : State) (p q : Bool) :
    f (latched p q s) = latched p q (f s) := by
  cases meaning with
  | shared op =>
    refine commutes_of_settled (sharedOp_hides op (hides_latches _ p q) s) ?_
    obtain ⟨e, did, plain⟩ := sharedOp_did op (latched p q s)
    have ctl := did.ctl.trans plain.ctl
    unfold latched at ctl ⊢
    rw [ctl]
    exact congrArg _ ctl.symm
  | _ => rfl

/-- Settles O58: no operation reads or writes the latches. -/
theorem requestLatchesAreInert : Obligations.RequestLatchesAreInert := by
  intro i s p q
  obtain ⟨pre, f, fetches, meaning, run⟩ := dispatched i
  have runs := (passes_of_exec (run s)).runs
  refine ⟨f (pre s), run s, runs.int, runs.nmi, (run (latched p q s)).trans ?_⟩
  rw [fetches_commute (m := latched p q) fetches fun _ => rfl, meaning_latches meaning]
  rfl

/-! The index registers (10_state.md R25). -/

/-- Both index registers set as given. -/
def indexed (x y : Word) (s : State) : State := (s.setReg16 .ix x).setReg16 .iy y

theorem hides_index (x y : Word) : Hides false (indexed x y) fun w s => s.setMemptr w := by
  constructor
  case reg8 => intro s x h; cases x <;> simp_all [names8, indexed, State.reg8, State.setReg16, Regs.get8, Regs.set16]
  case reg16 => intro s p h; cases p <;> simp_all [names16, indexed, State.reg16, State.setReg16, Regs.get16, Regs.set16]
  case setReg8 => intro s x v h; cases x <;> simp_all [names8, indexed, State.setReg8, State.setReg16, Regs.set8, Regs.set16]
  case setReg16 => intro s p v h; cases p <;> simp_all [names16, indexed, State.setReg16, Regs.set16]
  all_goals intros; rfl

theorem indexed_of_index {x y : Word} {s u : State} (ixh : u.regs.ixh = (indexed x y s).regs.ixh)
    (ixl : u.regs.ixl = (indexed x y s).regs.ixl) (iyh : u.regs.iyh = (indexed x y s).regs.iyh)
    (iyl : u.regs.iyl = (indexed x y s).regs.iyl) : indexed x y u = u := by
  simp only [indexed, State.setReg16, Regs.set16] at *
  rw [← ixh, ← ixl, ← iyh, ← iyl]

theorem bitMem_index (b : Nat) (s : State) :
    (bitMem b s).reg16 .ix = s.reg16 .ix ∧ (bitMem b s).reg16 .iy = s.reg16 .iy := by
  have regs := (bitMem_did s b).regs
  exact ⟨(congrArg (Regs.get16 · .ix) regs :), (congrArg (Regs.get16 · .iy) regs :)⟩

theorem meaning_index {i : Instr} {f : State → State} (meaning : Meaning i f) (none : leadsIndex i = false) (s : State)
    (x y : Word) :
    (f s).reg16 .ix = s.reg16 .ix ∧ (f s).reg16 .iy = s.reg16 .iy ∧ f (indexed x y s) = indexed x y (f s) := by
  cases meaning with
  | shared op =>
    rw [none] at op
    obtain ⟨e, did, plain⟩ := sharedOp_did op s
    obtain ⟨ixh, ixl, iyh, iyl⟩ := plain.index rfl
    refine ⟨?_, ?_, commutes_of_settled (sharedOp_hides op (hides_index x y) s) ?_⟩
    · rw [State.reg16, State.reg16, did.regs, Regs.get16, Regs.get16, ixh, ixl]
    · rw [State.reg16, State.reg16, did.regs, Regs.get16, Regs.get16, iyh, iyl]
    · obtain ⟨e', did', plain'⟩ := sharedOp_did op (indexed x y s)
      obtain ⟨ixh', ixl', iyh', iyl'⟩ := plain'.index rfl
      exact indexed_of_index (did'.regs ▸ ixh') (did'.regs ▸ ixl') (did'.regs ▸ iyh') (did'.regs ▸ iyl')
  | retn | reti =>
    have regs := (returnFromInterrupt_did s).regs
    exact ⟨(congrArg (Regs.get16 · .ix) regs :), (congrArg (Regs.get16 · .iy) regs :), rfl⟩
  | bit0 | bit1 | bit2 | bit3 | bit4 | bit5 | bit6 | bit7 => 
    obtain ⟨ix, iy⟩ := bitMem_index _ s
    exact ⟨ix, iy, rfl⟩
  | _ => exact ⟨rfl, rfl, rfl⟩

/-- Settles O55: no operation of the unprefixed tables names an index register. -/
theorem indexRegistersNeedAPrefix : Obligations.IndexRegistersNeedAPrefix := by
  intro op s x y i row
  obtain ⟨pre, f, fetches, meaning, run⟩ := dispatched i
  obtain ⟨ix, iy, commutes⟩ := meaning_index meaning (leadsIndex_eq_false row) (pre s) x y
  refine ⟨f (pre s), run s, ix.trans (fetches_reg16 fetches s _), iy.trans (fetches_reg16 fetches s _), ?_⟩
  refine (run (indexed x y s)).trans ?_
  rw [fetches_commute (m := indexed x y) fetches fun _ => rfl, commutes]
  rfl

/-! `MEMPTR` (10_state.md R30). -/

theorem hides_memptr (idx : Bool) : Hides idx (·.setMemptr 0) fun _ s => s := by
  constructor
  case setReg8 => intro s x v h; cases x <;> rfl
  case setReg16 => intro s p v h; cases p <;> rfl
  all_goals intros; rfl

theorem meaning_memptr {i : Instr} {f : State → State} (meaning : Meaning i f)
    (no : ∀ b, b < 8 → i ≠ cbTable (opcode 1 b 6)) (s : State) :
    (f (s.setMemptr 0)).setMemptr 0 = (f s).setMemptr 0 := by
  cases meaning with
  | shared op => exact sharedOp_hides op (hides_memptr _) s
  | bit0 => exact absurd rfl (no 0 (by decide))
  | bit1 => exact absurd rfl (no 1 (by decide))
  | bit2 => exact absurd rfl (no 2 (by decide))
  | bit3 => exact absurd rfl (no 3 (by decide))
  | bit4 => exact absurd rfl (no 4 (by decide))
  | bit5 => exact absurd rfl (no 5 (by decide))
  | bit6 => exact absurd rfl (no 6 (by decide))
  | bit7 => exact absurd rfl (no 7 (by decide))
  | _ => rfl

/-- Two states that are the same but for `MEMPTR`. -/
theorem eq_setMemptr {s t : State} (same : t.setMemptr 0 = s.setMemptr 0) : t = s.setMemptr t.regs.memptr :=
  congrArg (·.setMemptr t.regs.memptr) same

/-- Settles O56: the other operations leave the same state but for `MEMPTR` whatever it held. -/
theorem memptrIsSeenByBitAtHLAlone : Obligations.MemptrIsSeenByBitAtHLAlone := by
  intro i s w no
  obtain ⟨pre, f, fetches, meaning, run⟩ := dispatched i
  have blind := meaning_memptr meaning no
  refine ⟨f (pre s), (f (pre (s.setMemptr w))).regs.memptr, run s, (run _).trans (congrArg _ (eq_setMemptr ?_))⟩
  rw [fetches_commute (m := (·.setMemptr w)) fetches fun _ => rfl]
  exact (blind ((pre s).setMemptr w)).symm.trans (blind (pre s))

/-! The writers of each control cell, of `I` and of bit 7 of `R` (10_state.md sections 3 and 4). -/

theorem sharedOp_ctl {idx : Bool} {f : State → State} (op : SharedOp idx f) (s : State) : (f s).ctl = s.ctl := by
  obtain ⟨e, did, plain⟩ := sharedOp_did op s
  exact did.ctl.trans plain.ctl

/-- An encoding of `RETN` is a row of the `ED` table. -/
theorem retn_row {y : BitVec 3} (wf : (Instr.retn y).wellFormed = true) :
    ∃ z, z < 8 ∧ Instr.retn y = edTable (opcode 1 z 5) := by
  revert y
  decide +kernel

theorem im0_row {y : BitVec 3} (wf : (Instr.im0 y).wellFormed = true) :
    ∃ z, z < 8 ∧ Instr.im0 y = edTable (opcode 1 z 6) := by
  revert y
  decide +kernel

theorem im1_row {y : BitVec 3} (wf : (Instr.im1 y).wellFormed = true) :
    ∃ z, z < 8 ∧ Instr.im1 y = edTable (opcode 1 z 6) := by
  revert y
  decide +kernel

theorem im2_row {y : BitVec 3} (wf : (Instr.im2 y).wellFormed = true) :
    ∃ z, z < 8 ∧ Instr.im2 y = edTable (opcode 1 z 6) := by
  revert y
  decide +kernel

section
variable {i : Instr} {f : State → State} (meaning : Meaning i f) (s : State)
include meaning

theorem meaning_iff2 (noEi : i ∉ [baseTable 0xFB, ddTable 0xFB, fdTable 0xFB])
    (noDi : i ∉ [baseTable 0xF3, ddTable 0xF3, fdTable 0xF3]) : (f s).ctl.iff2 = s.ctl.iff2 := by
  cases meaning with
  | shared op => rw [sharedOp_ctl op]
  | ei => exact absurd (base_mem_rows 0xFB) noEi
  | @eiPfx pp => exact absurd (idx_mem_rows pp (by cases pp <;> rfl)) noEi
  | di => exact absurd (base_mem_rows 0xF3) noDi
  | @diPfx pp => exact absurd (idx_mem_rows pp (by cases pp <;> rfl)) noDi
  | retn | reti => exact (congrArg Control.iff2 (returnFromInterrupt_did s).ctl :)
  | _ => rfl

theorem meaning_iff1 (wf : i.wellFormed = true) (noEi : i ∉ [baseTable 0xFB, ddTable 0xFB, fdTable 0xFB])
    (noDi : i ∉ [baseTable 0xF3, ddTable 0xF3, fdTable 0xF3]) (noRetn : ∀ y, y < 8 → i ≠ edTable (opcode 1 y 5)) :
    (f s).ctl.iff1 = s.ctl.iff1 := by
  cases meaning with
  | shared op => rw [sharedOp_ctl op]
  | ei => exact absurd (base_mem_rows 0xFB) noEi
  | @eiPfx pp => exact absurd (idx_mem_rows pp (by cases pp <;> rfl)) noEi
  | di => exact absurd (base_mem_rows 0xF3) noDi
  | @diPfx pp => exact absurd (idx_mem_rows pp (by cases pp <;> rfl)) noDi
  | retn =>
    obtain ⟨y, small, row⟩ := retn_row wf
    exact absurd row (noRetn y small)
  | reti => exact absurd rfl (noRetn 1 (by decide))
  | _ => rfl

theorem meaning_eiLatch (noEi : i ∉ [baseTable 0xFB, ddTable 0xFB, fdTable 0xFB]) :
    (f s).ctl.eiJustExecuted = s.ctl.eiJustExecuted := by
  cases meaning with
  | shared op => rw [sharedOp_ctl op]
  | ei => exact absurd (base_mem_rows 0xFB) noEi
  | @eiPfx pp => exact absurd (idx_mem_rows pp (by cases pp <;> rfl)) noEi
  | retn | reti => exact (congrArg Control.eiJustExecuted (returnFromInterrupt_did s).ctl :)
  | _ => rfl

theorem meaning_mode (wf : i.wellFormed = true) (noIm : ∀ y, y < 8 → i ≠ edTable (opcode 1 y 6)) :
    (f s).ctl.interruptMode = s.ctl.interruptMode := by
  cases meaning with
  | shared op => rw [sharedOp_ctl op]
  | im0 =>
    obtain ⟨y, small, row⟩ := im0_row wf
    exact absurd row (noIm y small)
  | im1 =>
    obtain ⟨y, small, row⟩ := im1_row wf
    exact absurd row (noIm y small)
  | im2 =>
    obtain ⟨y, small, row⟩ := im2_row wf
    exact absurd row (noIm y small)
  | retn | reti => exact (congrArg Control.interruptMode (returnFromInterrupt_did s).ctl :)
  | _ => rfl

theorem meaning_halted (noHalt : i ∉ [baseTable 0x76, ddTable 0x76, fdTable 0x76]) :
    (f s).ctl.halted = s.ctl.halted := by
  cases meaning with
  | shared op => rw [sharedOp_ctl op]
  | halt => exact absurd (base_mem_rows 0x76) noHalt
  | @haltPfx pp => exact absurd (idx_mem_rows pp (by cases pp <;> rfl)) noHalt
  | retn | reti => exact (congrArg Control.halted (returnFromInterrupt_did s).ctl :)
  | _ => rfl

theorem meaning_i (no : i ≠ edTable 0x47) : (f s).regs.i = s.regs.i := by
  cases meaning with
  | shared op =>
    obtain ⟨e, did, plain⟩ := sharedOp_did op s
    rw [did.regs, plain.i]
  | ldIA => exact absurd rfl no
  | retn | reti => exact (congrArg Regs.i (returnFromInterrupt_did s).regs :)
  | _ => rfl

theorem meaning_r (no : i ≠ edTable 0x4F) : (f s).regs.r = s.regs.r := by
  cases meaning with
  | shared op =>
    obtain ⟨e, did, plain⟩ := sharedOp_did op s
    rw [did.regs, plain.r]
  | ldRA => exact absurd rfl no
  | retn | reti => exact (congrArg Regs.r (returnFromInterrupt_did s).regs :)
  | _ => rfl

end

theorem fetches_ctl {pre : State → State} (h : Fetches pre) (s : State) : (pre s).ctl = s.ctl := by
  cases h <;> rfl

theorem fetches_i {pre : State → State} (h : Fetches pre) (s : State) : (pre s).regs.i = s.regs.i := by
  cases h <;> rfl

/-- A fetch counts in the low seven bits of `R` alone (R37). -/
theorem fetches_r7 {pre : State → State} (h : Fetches pre) (s : State) :
    (pre s).regs.r.getLsbD 7 = s.regs.r.getLsbD 7 := by
  cases h with
  | one => exact nextR_bit7 _
  | two => exact (nextR_bit7 _).trans (nextR_bit7 _)

/-- Settles O57: cell by cell, the operations that write it. -/
theorem controlCellWriters : Obligations.ControlCellWriters := by
  intro i s t wf run enables disables
  obtain ⟨pre, f, fetches, meaning, run'⟩ := dispatched i
  obtain rfl := Host.Outcome.next.inj (run.symm.trans (run' s))
  simp only [← fetches_ctl fetches s, ← fetches_i fetches s, ← fetches_r7 fetches s]
  refine ⟨fun noEi noDi => ⟨meaning_iff2 meaning _ noEi noDi, meaning_iff1 meaning _ wf noEi noDi⟩,
    meaning_eiLatch meaning _, meaning_mode meaning _ wf, meaning_halted meaning _, meaning_i meaning _, fun no => ?_⟩
  rw [meaning_r meaning _ no]

end Sys2Proof.Proofs.Meanings
end

/-! # Proofs: the step (60_exceptions.md sections 1 to 5; 47_ddfd.md section 5) -/

section
open Sys2Proof Sys2Proof.Machine
open Sys2Proof.Proofs.Encoding Sys2Proof.Proofs.Meanings

namespace Sys2Proof.Proofs.Steps

/-! ## What a step may do -/

theorem step_eq (s : State) :
    step s = if s.counterOk then checkCounter s.serve else .refused .counterOutOfRange := rfl

theorem step_of_counterOk {s : State} (ok : s.counterOk = true) : step s = checkCounter s.serve := if_pos ok

theorem counterOk_iff (s : State) : s.counterOk = true ↔ 0 ≤ s.cycles ∧ s.cycles < counterLimit := by
  simp [State.counterOk]

theorem checkCounter_eq_next {o : Outcome} {t : State} (h : checkCounter o = .next t) :
    o = .next t ∧ t.cycles < counterLimit := by
  cases o with
  | next u =>
    simp only [checkCounter] at h
    split at h
    next small =>
      obtain rfl := Host.Outcome.next.inj h
      exact ⟨rfl, small⟩
    next => cases h
  | fault => cases h
  | refused => cases h

/-- A step that completes began with its counter in range and ended so. -/
theorem step_eq_next {s t : State} (h : step s = .next t) :
    0 ≤ s.cycles ∧ s.serve = .next t ∧ t.cycles < counterLimit := by
  rw [step_eq] at h
  split at h
  next ok =>
    obtain ⟨served, small⟩ := checkCounter_eq_next h
    exact ⟨((counterOk_iff s).1 ok).1, served, small⟩
  next => cases h

/-! ## Which of its four ways the step takes -/

theorem serve_nmi {s : State} (nmi : s.ctl.nmiPending = true) : s.serve = .next s.clearShadow.acceptNmi := if_pos nmi

theorem serve_int {s : State} (nmi : s.ctl.nmiPending = false) (int : s.ctl.interruptPending = true)
    (iff1 : s.ctl.iff1 = true) (latchClear : s.ctl.eiJustExecuted = false) : s.serve = .next s.clearShadow.acceptInt := by
  simp [State.serve, State.takesInt, nmi, int, iff1, latchClear]

theorem clearShadow_of_open {s : State} (latchClear : s.ctl.eiJustExecuted = false) : s.clearShadow = s := by
  rw [State.clearShadow, ← latchClear]
  rfl

/-- No interrupt is taken: the request is absent, masked, or in the shadow of `EI`. -/
theorem serve_none {s : State} (nmi : s.ctl.nmiPending = false)
    (masked : s.ctl.interruptPending = true → s.ctl.iff1 = true → s.ctl.eiJustExecuted = true) :
    s.serve = if s.ctl.halted then .next s.clearShadow.haltedCycle else s.clearShadow.runInstr := by
  have takes : s.takesInt s.ctl.eiJustExecuted = false := by
    cases int : s.ctl.interruptPending <;> cases iff1 : s.ctl.iff1 <;> simp_all [State.takesInt]
  simp [State.serve, nmi, takes]

/-! ## Taking an interrupt -/

theorem spend_runs (s : State) (n : Nat) : s.Runs (s.spend n) :=
  have later : s.cycles ≤ s.cycles + n := by omega
  ⟨rfl, later, id, fun ordered => ordered.later later rfl, rfl, rfl⟩

theorem leaveHalt_runs (s : State) : s.Runs s.leaveHalt := by
  unfold State.leaveHalt
  split
  · exact (State.Runs.refl s).regsOnly rfl rfl rfl rfl rfl rfl
  · exact .refl s

theorem ackRefresh_runs (s : State) : s.Runs s.ackRefresh := by
  unfold State.ackRefresh
  split
  · exact (State.Runs.refl s).refresh
  · exact .refl s

theorem vectorBus_runs (v : Vector) (s : State) : s.Runs (v.bus s) := by
  cases v with
  | fixed a => exact .refl s
  | indirect a => exact (State.Runs.refl s).memRead16 a

/-- The registers of an acceptance behind its push: `PC` and `MEMPTR` from the vector, and the fixed cost. -/
theorem afterPush_runs (v : Vector) (u : State) (w : Word) (cost : Nat) :
    u.Runs ((((v.bus u).setPc w).setMemptr w).spend cost) :=
  (((vectorBus_runs v u).setPc w).setMemptr w).trans (spend_runs _ cost)

theorem push16_least (u : State) (w : Word) : u.cycles + 4 ≤ (u.push16 w).cycles := by
  have first := add_le_afterContend_one u.platform (u.regs.sp - 1) 3 u.cycles
  have second := add_le_afterContend_one u.platform (u.regs.sp - 2) 3
    (u.platform.afterContend (u.regs.sp - 1) 3 1 u.cycles)
  show _ ≤ u.platform.afterContend (u.regs.sp - 2) 3 1 (u.platform.afterContend (u.regs.sp - 1) 3 1 u.cycles)
  omega

theorem takeInterrupt_passes (u : State) (v : Vector) (cost : Nat) : Passes u (u.takeInterrupt v cost) := by
  have before := (leaveHalt_runs u).trans (ackRefresh_runs _)
  have push := State.Runs.push16 (.refl u.leaveHalt.ackRefresh) u.leaveHalt.ackRefresh.regs.pc
  have after := afterPush_runs v (u.leaveHalt.ackRefresh.push16 u.leaveHalt.ackRefresh.regs.pc)
    (v.target (u.leaveHalt.ackRefresh.push16 u.leaveHalt.ackRefresh.regs.pc)) cost
  refine ⟨(before.trans push).trans after, ?_, ?_⟩
  · rw [(takeInterrupt_did u v cost).trace]
    exact busTrace_suffix ..
  · have := before.cycles
    have := push16_least u.leaveHalt.ackRefresh u.leaveHalt.ackRefresh.regs.pc
    exact Int.le_trans (by omega) after.cycles

theorem haltedCycle_passes (u : State) : Passes u u.haltedCycle where
  runs := ((State.Runs.refl u).contend _ _ _).refresh
  suffix := List.suffix_rfl
  least := add_le_afterContend_one u.platform u.regs.pc 4 u.cycles

/-! ## The instruction and the prefixes in front of it -/

theorem runPrefixes_passes {k : Nat} {s t : State} (h : s.runPrefixes k = .next t) : Passes s t := by
  induction k generalizing s with
  | zero => cases h
  | succ k ih =>
    obtain ⟨u, run, passes⟩ := exec_completes s.nextInstr s
    simp only [State.runPrefixes, run] at h
    split at h
    · exact passes.trans (ih h)
    · exact Host.Outcome.next.inj h ▸ passes

/-! ## What every step keeps -/

/-- What holds between a state and the next. -/
structure Keeps (s t : State) : Prop where
  platform : t.platform = s.platform
  wf : s.mem.wf = true → t.mem.wf = true
  trace : s.TraceOrdered → t.TraceOrdered
  suffix : s.bus <:+ t.bus
  least : s.cycles + 4 ≤ t.cycles

/-- A step first changes control cells, which none of it depends on. -/
theorem keeps_of_passes {s t : State} {c : Control} (h : Passes (s.setCtl c) t) : Keeps s t :=
  ⟨h.runs.platform, h.runs.wf, h.runs.trace, h.suffix, h.least⟩

theorem acceptNmi_keeps (s : State) : Keeps s s.clearShadow.acceptNmi :=
  keeps_of_passes (takeInterrupt_passes (s.clearShadow.setCtl _) _ _)

theorem acceptInt_keeps (s : State) : Keeps s s.clearShadow.acceptInt :=
  keeps_of_passes (takeInterrupt_passes (s.clearShadow.setCtl _) _ _)

theorem serve_keeps {s t : State} (h : s.serve = .next t) : Keeps s t := by
  unfold State.serve at h
  split_ifs at h
  · exact Host.Outcome.next.inj h ▸ acceptNmi_keeps s
  · exact Host.Outcome.next.inj h ▸ acceptInt_keeps s
  · exact Host.Outcome.next.inj h ▸ keeps_of_passes (haltedCycle_passes s.clearShadow)
  · exact keeps_of_passes (runPrefixes_passes h)

theorem step_keeps {s t : State} (h : step s = .next t) : Keeps s t := serve_keeps (step_eq_next h).2.1

/-- Settles O52: a step keeps memory canonical, only adds time, and is refused where the counter leaves its range. -/
theorem stepKeepsTheInvariant : Obligations.StepKeepsTheInvariant := by
  intro s t inv h
  obtain ⟨start, -, small⟩ := step_eq_next h
  have keeps := step_keeps h
  refine ⟨keeps.wf inv.1, (counterOk_iff t).2 ⟨?_, small⟩⟩
  have := keeps.least
  omega

/-- Settles O53. -/
theorem stepKeepsTheTraceOrdered : Obligations.StepKeepsTheTraceOrdered := fun _ _ ordered h =>
  have keeps := step_keeps h
  ⟨keeps.trace ordered, keeps.suffix, keeps.platform⟩

/-- Settles O49: every way a step takes has a bus cycle of 4 T-states, or two of 3. -/
theorem counterPrecondition : Obligations.CounterPrecondition := by
  refine fun s t => ⟨fun out => ?_, fun h => ?_⟩
  · rw [step_eq, if_neg]
    rw [counterOk_iff, counterLimit]
    omega
  · obtain ⟨start, -, small⟩ := step_eq_next h
    exact ⟨start, (step_keeps h).least, small⟩

/-! ## Taking an interrupt, whole (R503 to R507, R510) -/

/-- The effect does not depend on the control cells the acceptance starts from. -/
theorem of_setCtl {s t : State} {c : Control} {e : Effect} (h : e.Of (s.setCtl c) t) : e.Of s t :=
  ⟨h.regs, h.shadow, h.ctl, h.mem, h.cycles, h.tstates, h.trace, h.answers, h.reads, h.platform⟩

/-- Settles O46. -/
theorem nonMaskableAcceptance : Obligations.NonMaskableAcceptance := by
  intro s ok nmi
  refine ⟨s.clearShadow.acceptNmi, ?_, by rw [step_of_counterOk ok, serve_nmi nmi]⟩
  have did := of_setCtl (of_setCtl (takeInterrupt_did
    (s.clearShadow.setCtl { s.clearShadow.ctl with nmiPending := false, iff1 := false }) (.fixed 0x0066)
    s.platform.nmiAckTStates))
  refine did.cast ?_
  simp only [Int.add_zero]
  rfl

/-- Settles O45: the vector by the mode. -/
theorem maskableAcceptance : Obligations.MaskableAcceptance := by
  intro s ok nmi int iff1 latchClear
  refine ⟨s.acceptInt, ?_, ?_⟩
  · have did := of_setCtl (takeInterrupt_did
      (s.setCtl { s.ctl with interruptPending := false, iff1 := false, iff2 := false }) s.intVector s.platform.intAckTStates)
    refine did.cast ?_
    unfold State.intVector
    cases s.ctl.interruptMode <;> rfl
  · rw [step_of_counterOk ok, serve_int nmi int iff1 latchClear, clearShadow_of_open latchClear]

/-- Settles O47: the EI latch holds the request off, the instruction leaves it latched, and then it is taken. -/
theorem eiShadow : Obligations.EiShadow := by
  intro s t nmi int shadow halted h
  obtain ⟨start, served, small⟩ := step_eq_next h
  rw [serve_none nmi fun _ _ => shadow, halted, if_neg Bool.false_ne_true] at served
  have passes := runPrefixes_passes served
  refine ⟨served, passes.runs.int.trans int, fun iff1 latchClear => ?_⟩
  have least : s.cycles + 4 ≤ t.cycles := passes.least
  rw [step_of_counterOk ((counterOk_iff t).2 ⟨by omega, small⟩),
    serve_int (passes.runs.nmi.trans nmi) (passes.runs.int.trans int) iff1 latchClear]
  rw [clearShadow_of_open latchClear]

/-- Settles O48. -/
theorem haltedStep : Obligations.HaltedStep := by
  intro s ok nmi halted masked
  refine ⟨⟨s.clearShadow.haltedCycle, of_setCtl (haltedCycle_did s.clearShadow), ?_⟩, ?_⟩
  · rw [step_of_counterOk ok, serve_none nmi masked, if_pos halted]
  · show Host.Outcome.next (halt s.fetch) = _
    have ctl : { s.ctl with halted := true } = s.ctl := by rw [← halted]
    simp [halt, State.fetch, State.haltedCycle, State.refresh, State.setPc, State.setCtl, State.advance, State.contend, ctl]

/-! ## Prefixes (30_encoding.md section 1; 47_ddfd.md section 5) -/

theorem isPrefix_edTable (op : Byte) : (edTable op).isPrefix = false := by
  revert op
  decide +kernel

theorem isPrefix_idxCbTable (ii : Idx) (op : Byte) : (idxCbTable ii op).isPrefix = false := by
  cases ii <;> revert op <;> decide +kernel

theorem isPrefix_cbTable (op : Byte) : (cbTable op).isPrefix = false := by
  revert op
  decide +kernel

/-- Four bytes that decode to the row of prefixes begin with `DD` or `FD` and another such byte or `ED`. -/
theorem isPrefix_decodeWindow {b0 b1 b3 : Byte} (h : (decodeWindow b0 b1 b3).isPrefix = true) :
    ∃ ii : Idx, b0 = ii.prefixByte ∧ (b1 = 0xDD ∨ b1 = 0xED ∨ b1 = 0xFD) := by
  obtain lead | rfl | rfl | ⟨ii, rfl⟩ := firstByte_cases b0
  · rw [(decodeWindow_base lead b1 b3).1, lead] at h
    cases h
  · exact absurd h (by simp [decodeWindow, isPrefix_cbTable])
  · exact absurd h (by simp [decodeWindow, isPrefix_edTable])
  · rw [decodeWindow_idx] at h
    split_ifs at h with cb
    · rw [isPrefix_idxCbTable] at h
      cases h
    · rw [isPrefix_idxTable, decide_eq_true_iff] at h
      exact ⟨ii, rfl, h.resolve_left cb⟩

/-- In front of another, `DD` and `FD` cost their own fetch alone (R455). -/
theorem exec_prefix {i : Instr} {s : State} (next : i = s.nextInstr) (h : i.isPrefix = true) :
    exec i s = .next s.fetch := by
  subst next
  obtain ⟨ii, lead, second⟩ := isPrefix_decodeWindow h
  unfold State.nextInstr
  simp only [lead]
  obtain second | second | second := second <;> rw [second] <;> cases ii <;> rfl

theorem runPrefixes_succ (k : Nat) (s : State) :
    s.runPrefixes (k + 1) = if s.nextInstr.isPrefix then s.fetch.runPrefixes k else exec s.nextInstr s := by
  obtain ⟨t, run, -⟩ := exec_completes s.nextInstr s
  by_cases h : s.nextInstr.isPrefix = true
  · simp only [State.runPrefixes, exec_prefix rfl h, h, if_true]
  · simp [State.runPrefixes, run, h]

/-- The decoder reads the next instruction from the four bytes at `PC`. -/
theorem decode_at_pc (s : State) :
    decode [s.codeByte 0, s.codeByte 1, s.codeByte 2, s.codeByte 3] = .ok s.nextInstr := by
  rw [decode_four_bytes]
  simp [State.nextInstr, State.codeByte, State.codeAddr]

/-- Settles O44. -/
theorem stepRunsTheDecodedInstruction : Obligations.StepRunsTheDecodedInstruction := by
  refine fun s i => ⟨fun ok nmi halted masked decoded => ?_, fun k decoded => ?_⟩
  all_goals obtain rfl : s.nextInstr = i := Except.ok.inj ((decode_at_pc s).symm.trans decoded)
  · rw [step_of_counterOk ok, serve_none nmi masked, halted, if_neg Bool.false_ne_true]
    exact congrArg checkCounter (runPrefixes_succ 65535 s.clearShadow)
  · exact runPrefixes_succ k s

/-! ## Every step completes where nothing is contended (U3, U16) -/

/-- A chain of prefixes that ends within `k` bytes is spent, each prefix in 4 T-states, and its instruction runs. -/
theorem runPrefixes_completes {k : Nat} {s : State} (none : s.Uncontended)
    (ends : ∃ j, j < k ∧ ∀ ii : Idx, s.peek (s.regs.pc + BitVec.ofNat 16 j) ≠ ii.prefixByte) :
    ∃ t, s.runPrefixes k = .next t ∧ t.cycles ≤ s.cycles + 4 * k + 23 := by
  induction k generalizing s with
  | zero =>
    obtain ⟨j, small, -⟩ := ends
    exact absurd small (Nat.not_lt_zero j)
  | succ k ih =>
    rw [runPrefixes_succ]
    split
    next h =>
      obtain ⟨ii, lead, -⟩ := isPrefix_decodeWindow h
      obtain ⟨j, small, other⟩ := ends
      cases j with
      | zero => exact absurd lead (by simpa using other ii)
      | succ j =>
        have ahead (ii : Idx) : s.fetch.peek (s.fetch.regs.pc + BitVec.ofNat 16 j) ≠ ii.prefixByte := by
          have := other ii
          rwa [Nat.add_comm, BitVec.ofNat_add, ← BitVec.add_assoc] at this
        obtain ⟨t, run, brief⟩ := ih (uncontended_of_runs none (.fetch_self s)) ⟨j, by omega, ahead⟩
        refine ⟨t, run, ?_⟩
        have := fetch_uncontended none
        push_cast
        omega
    next =>
      obtain ⟨t, run, -⟩ := exec_completes s.nextInstr s
      refine ⟨t, run, ?_⟩
      have := exec_brief none run
      omega

theorem takeInterrupt_brief {u : State} (none : u.Uncontended) (v : Vector) (cost : Nat) :
    (u.takeInterrupt v cost).cycles ≤ u.cycles + 12 + cost := by
  have := (takeInterrupt_did u v cost).tstates none
  cases v <;> simp [State.does] at this <;> omega

theorem acceptNmi_brief {s : State} (none : s.Uncontended) :
    s.acceptNmi.cycles ≤ s.cycles + 12 + s.platform.nmiAckTStates :=
  takeInterrupt_brief (u := s.setCtl { s.ctl with nmiPending := false, iff1 := false }) none _ _

theorem acceptInt_brief {s : State} (none : s.Uncontended) :
    s.acceptInt.cycles ≤ s.cycles + 12 + s.platform.intAckTStates :=
  takeInterrupt_brief (u := s.setCtl { s.ctl with interruptPending := false, iff1 := false, iff2 := false }) none _ _

/-- Somewhere within 65,536 bytes is one that is neither `DD` nor `FD`. -/
theorem chain_ends {s : State} (other : ∃ a : Word, s.peek a ≠ 0xDD ∧ s.peek a ≠ 0xFD) :
    ∃ j, j < prefixBound ∧ ∀ ii : Idx, s.peek (s.regs.pc + BitVec.ofNat 16 j) ≠ ii.prefixByte := by
  obtain ⟨a, noDD, noFD⟩ := other
  refine ⟨(a - s.regs.pc).toNat, (a - s.regs.pc).isLt, fun ii => ?_⟩
  have reached : s.regs.pc + BitVec.ofNat 16 (a - s.regs.pc).toNat = a := by
    rw [BitVec.ofNat_toNat, BitVec.setWidth_eq, add_sub_cancel]
  rw [reached]
  cases ii
  · exact noDD
  · exact noFD

theorem serve_completes {s : State} (none : s.Uncontended) (other : ∃ a : Word, s.peek a ≠ 0xDD ∧ s.peek a ≠ 0xFD) :
    ∃ t, s.serve = .next t ∧
      t.cycles < s.cycles + 4 * 65536 + 64 + s.platform.intAckTStates + s.platform.nmiAckTStates := by
  unfold State.serve
  have cycles : s.clearShadow.cycles = s.cycles := rfl
  have platform : s.clearShadow.platform = s.platform := rfl
  have none' : s.clearShadow.Uncontended := none
  have chain := runPrefixes_completes none' (chain_ends (s := s.clearShadow) other)
  generalize s.clearShadow = u at *
  rw [← cycles, ← platform]
  split_ifs
  · refine ⟨_, rfl, ?_⟩
    have := acceptNmi_brief none'
    omega
  · refine ⟨_, rfl, ?_⟩
    have := acceptInt_brief none'
    omega
  · refine ⟨_, rfl, ?_⟩
    have : u.haltedCycle.cycles = u.cycles + 4 := (haltedCycle_did u).tstates none'
    omega
  · obtain ⟨t, run, brief⟩ := chain
    refine ⟨t, run, ?_⟩
    rw [prefixBound] at brief
    omega

/-- Settles O50: every way of the step completes, and in time. -/
theorem stepCompletes : Obligations.StepCompletes := by
  intro s none start room other
  obtain ⟨t, served, brief⟩ := serve_completes none other
  have small : t.cycles < counterLimit := by
    rw [counterLimit]
    omega
  refine ⟨t, ?_⟩
  have early : s.cycles < counterLimit := by
    rw [counterLimit]
    omega
  rw [step_of_counterOk ((counterOk_iff s).2 ⟨start, early⟩), served]
  exact if_pos small

end Sys2Proof.Proofs.Steps
end

/-! # Proofs: the stack, calls and returns, and the instructions that write control cells (41_base_load_exchange.md R197,
R198; 43_base_control.md R287 to R294; 45_ed.md R359 to R361) -/

section
open Sys2Proof Sys2Proof.Machine Sys2Proof.Proofs.FlagFunctions Sys2Proof.Proofs.OneFetch Sys2Proof.Proofs.TwoFetches
open Sys2Proof.Proofs.BaseArithmetic Sys2Proof.Proofs.CbTable Sys2Proof.Proofs.EdTable Sys2Proof.Proofs.EdBlock
open Sys2Proof.Proofs.IndexTables

namespace Sys2Proof.Proofs.StackAndControl

/-! ## The rows of the tables -/

section
variable {p y : Nat} (s : State)

theorem exec_pushPair (hp : p < 4) : exec (baseTable (opcode 3 (2 * p) 5)) s = .next (pushPair (rp2 p) s.fetch) := by
  interval_cases p <;> rfl

theorem exec_popPair (hp : p < 4) : exec (baseTable (opcode 3 (2 * p) 1)) s = .next (popPair (rp2 p) s.fetch) := by
  interval_cases p <;> rfl

theorem exec_callCond (hy : y < 8) : exec (baseTable (opcode 3 y 4)) s = .next (callCond (ccOf y) s.fetch) := by
  interval_cases y <;> rfl

theorem exec_retCond (hy : y < 8) : exec (baseTable (opcode 3 y 0)) s = .next (retCond (ccOf y) s.fetch) := by
  interval_cases y <;> rfl

theorem exec_rst (hy : y < 8) :
    exec (baseTable (opcode 3 y 7)) s = .next (rst (BitVec.ofNat 16 (8 * y)) s.fetch) := by
  interval_cases y <;> rfl

/-- R359, R360: `RETI` is the second of the eight rows. -/
theorem exec_retn (hy : y < 8) : exec (edTable (opcode 1 y 5)) s = .next s.fetch2.returnFromInterrupt := by
  interval_cases y <;> rfl

/-- R361: the mode of a row. -/
theorem exec_im (hy : y < 8) :
    exec (edTable (opcode 1 y 6)) s =
      .next (setMode ([IntMode.im0, .im0, .im1, .im2].getD (y % 4) .im0) s.fetch2) := by
  interval_cases y <;> rfl

end

/-! ## Spellings -/

section
variable (s : State)

@[simp] theorem fetch_top16 : s.fetch.top16 = s.peek16 s.regs.sp := rfl

@[simp] theorem fetch2_top16 : s.fetch2.top16 = s.peek16 s.regs.sp := by simp [State.top16]

theorem codeAddr_one : s.codeAddr 1 = s.regs.pc + 1 := by simp [State.codeAddr]

end

/-- `ran_of_did` behind two fetches. -/
theorem ran_of_did2 {s t : State} {i : Instr} {e f : Effect} (did : e.Of s.fetch2 t) (run : exec i s = .next t)
    (same : { e with
      bus := .fetch s.regs.pc :: .fetch (s.regs.pc + 1) :: e.bus
      tstates := 4 + (4 + e.tstates) } = f) : s.Ran i f :=
  ⟨t, run, did.afterFetch2.cast same⟩

/-! ## The flags of `SCF` and `CCF` -/

theorem scfFlags_eq (a f : Byte) :
    scfFlags a f = flagsOf (f.getLsbD 7) (f.getLsbD 6) (a.getLsbD 5) false (a.getLsbD 3) (f.getLsbD 2) false true := by
  have mask : flagPV ||| flagZ ||| flagS = flagS ||| flagZ ||| flagPV := rfl
  have carry : flagC = flagsOf false false false false false false false true := rfl
  rw [scfFlags, mask, and_flagsSZPV, bits53_eq, carry]
  simp [flagsOf_or]

theorem ccfFlags_eq (a f : Byte) :
    ccfFlags a f = flagsOf (f.getLsbD 7) (f.getLsbD 6) (a.getLsbD 5) (f.getLsbD 0) (a.getLsbD 3) (f.getLsbD 2) false
      (!f.getLsbD 0) := by
  have mask : flagPV ||| flagZ ||| flagS = flagS ||| flagZ ||| flagPV := rfl
  have carry : (if carryOf f then flagH else flagC) =
      flagsOf false false false (f.getLsbD 0) false false false (!f.getLsbD 0) := by
    rw [carryOf]
    cases f.getLsbD 0 <;> rfl
  rw [ccfFlags, mask, and_flagsSZPV, bits53_eq, carry]
  simp [flagsOf_or]

/-! ## The obligations -/

/-- Settles O4: the wait at `IR` is behind the fetch, which changes no register pushed. -/
theorem pushAndPop : Obligations.PushAndPop := by
  intro s p hp g sp
  refine ⟨?push, ?pop⟩
  case push =>
    exact ran_does (pushPair_did _ (rp2 p)) (exec_pushPair s hp) (by simp [g, sp, past_one_zero])
      (by simp [sp, code_one_zero, pushed, State.irWait]) rfl
  case pop =>
    exact ran_does (popPair_did _ (rp2 p)) (exec_popPair s hp) (by simp [g, sp, past_one_zero])
      (by simp [sp, code_one_zero, State.rd16]) rfl

/-- Settles O14: the condition is tested on the flags in front of the fetch, which leaves them. -/
theorem callsAndReturns : Obligations.CallsAndReturns := by
  intro s g nn sp call back
  refine ⟨?call, ?ret, fun y hy => ⟨?callCond, ?retCond, ?rst⟩⟩
  case call =>
    exact ran_does (call_did _) rfl (by simp [g, nn, sp, past_one_zero, Regs.jump])
      (by simp [sp, code_one_two, codeAddr_two, codeAddr_three, pushed]) rfl
  case ret =>
    exact ran_does (ret_did _) rfl (by simp [back, g, sp, past_one_zero, Regs.jump])
      (by simp [sp, code_one_zero, State.rd16]) rfl
  case callCond =>
    have did := callCond_did s.fetch (ccOf y)
    have run := exec_callCond s hy
    have flags : s.fetch.regs.f = s.regs.f := rfl
    rw [flags] at did
    split at did
    next taken =>
      rw [if_pos taken]
      exact ran_does did run (by simp [g, nn, sp, past_one_zero, Regs.jump])
        (by simp [sp, code_one_two, codeAddr_two, codeAddr_three, pushed]) rfl
    next notTaken =>
      rw [if_neg notTaken]
      exact ran_does did run (by simp [nn, past_one_two]) (by simp [code_one_two]) rfl
  case retCond =>
    have did := retCond_did s.fetch (ccOf y)
    have run := exec_retCond s hy
    have flags : s.fetch.regs.f = s.regs.f := rfl
    rw [flags] at did
    split at did
    next taken =>
      rw [if_pos taken]
      exact ran_does did run (by simp [back, g, sp, past_one_zero, Regs.jump])
        (by simp [sp, code_one_zero, State.rd16, State.irWait]) rfl
    next notTaken =>
      rw [if_neg notTaken]
      exact ran_does did run (by simp [g, past_one_zero]) (by simp [code_one_zero, State.irWait]) rfl
  case rst =>
    exact ran_does (rst_did _ _) (exec_rst s hy) (by simp [g, sp, past_one_zero, Regs.jump])
      (by simp [sp, code_one_zero, codeAddr_one, State.irWait, pushed]) rfl

/-- Settles O15: `PC` moves past the byte with the fetch, and back. -/
theorem haltInstruction : Obligations.HaltInstruction := by
  intro s
  refine ran_of_did (halt_did _) rfl ?_
  simp [State.does, past_one_zero, code_one_zero]

/-- Settles O16. -/
theorem interruptFlipFlops : Obligations.InterruptFlipFlops := by
  intro s g sp back
  refine ⟨?di, ?ei, fun y hy => ?retn⟩
  case di => exact ran_of_did (di_did _) rfl (by rw [code_one_zero]; rfl)
  case ei => exact ran_of_did (ei_did _) rfl (by rw [code_one_zero]; rfl)
  case retn =>
    refine ran_of_did2 (returnFromInterrupt_did _) (exec_retn s hy) ?_
    simp [back, sp, State.does, past_two_zero, code_two_zero, State.rd16, Regs.jump]

/-- Settles O12: `SCF` and `CCF` take bits 5 and 3 from `A`. -/
theorem carryFlagInstructions : Obligations.CarryFlagInstructions := by
  intro s g a f c kept
  refine ⟨?scf, ?ccf⟩
  case scf =>
    exact ran_does (scf_did _) rfl (by simp [g, kept, a, f, past_one_zero, scfFlags_eq])
      (code_one_zero s).symm rfl
  case ccf =>
    exact ran_does (ccf_did _) rfl (by simp [g, kept, a, f, c, past_one_zero, ccfFlags_eq])
      (code_one_zero s).symm rfl

end Sys2Proof.Proofs.StackAndControl
end

/-! # Proofs: the decided rows of the ED table, `I` and `R`, the nibble rotates, repeated block input and output
(45_ed.md sections 1 and 5 to 8; 46_ed_block.md sections 4 and 5) -/

section
open Sys2Proof Sys2Proof.Machine Sys2Proof.Proofs.FlagFunctions Sys2Proof.Proofs.TwoFetches Sys2Proof.Proofs.CbTable
open Sys2Proof.Proofs.EdTable Sys2Proof.Proofs.EdBlock Sys2Proof.Proofs.StackAndControl

namespace Sys2Proof.Proofs.EdRemainder

/-! ## The second bytes that are no instruction (R368) -/

theorem edTable_outerQuarters : ∀ y, y < 8 → ∀ z, z < 8 →
    edTable (opcode 0 y z) = .nopEd (opcode 0 y z) ∧ edTable (opcode 3 y z) = .nopEd (opcode 3 y z) := by
  decide +kernel

/-- The third quarter holds the block instructions, and nothing beside them. -/
theorem edTable_besideBlock : ∀ y, y < 8 → ∀ z, z < 8 → y < 4 ∨ 3 < z →
    edTable (opcode 2 y z) = .nopEd (opcode 2 y z) := by
  decide +kernel

theorem edTable_eq_nopEd {x y z : Nat} (hy : y < 8) (hz : z < 8)
    (h : x = 0 ∨ x = 3 ∨ (x = 1 ∧ z = 7 ∧ 6 ≤ y) ∨ (x = 2 ∧ (y < 4 ∨ 3 < z))) :
    edTable (opcode x y z) = .nopEd (opcode x y z) := by
  obtain rfl | rfl | ⟨rfl, rfl, high⟩ | ⟨rfl, outside⟩ := h
  case inl => exact (edTable_outerQuarters y hy z hz).1
  case inr.inl => exact (edTable_outerQuarters y hy z hz).2
  case inr.inr.inl => interval_cases y <;> rfl
  case inr.inr.inr => exact edTable_besideBlock y hy z hz outside

/-! ## Nibbles (R366, R367) -/

theorem shiftRight_four (v : Byte) : v >>> 4 = (v.extractLsb' 4 4).setWidth 8 := by
  refine BitVec.eq_of_getLsbD_eq fun k hk => ?_
  interval_cases k <;> simp

theorem and_0x0F (v : Byte) : v &&& 0x0F = (v.extractLsb' 0 4).setWidth 8 := by
  refine BitVec.eq_of_getLsbD_eq fun k hk => ?_
  interval_cases k <;> simp

theorem shiftLeft_four_or (v : Byte) (d : BitVec 4) : v <<< 4 ||| d.setWidth 8 = v.extractLsb' 0 4 ++ d := by
  refine BitVec.eq_of_getLsbD_eq fun k hk => ?_
  rw [BitVec.getLsbD_append, BitVec.getLsbD_or]
  interval_cases k <;> simp

theorem and_0xF0_or (v : Byte) (d : BitVec 4) : v &&& 0xF0 ||| d.setWidth 8 = v.extractLsb' 4 4 ++ d := by
  refine BitVec.eq_of_getLsbD_eq fun k hk => ?_
  rw [BitVec.getLsbD_append, BitVec.getLsbD_or]
  interval_cases k <;> simp

theorem rrd_eq (s : State) :
    let a := s.regs.a
    let t := s.peek (s.reg16 .hl)
    rrd s = rotateDigit (a.extractLsb' 0 4 ++ t.extractLsb' 4 4) (a.extractLsb' 4 4 ++ t.extractLsb' 0 4) s := by
  intro a t
  rw [← shiftLeft_four_or, ← and_0xF0_or, ← shiftRight_four, ← and_0x0F]
  rfl

theorem rld_eq (s : State) :
    let a := s.regs.a
    let t := s.peek (s.reg16 .hl)
    rld s = rotateDigit (t.extractLsb' 0 4 ++ a.extractLsb' 0 4) (a.extractLsb' 4 4 ++ t.extractLsb' 4 4) s := by
  intro a t
  rw [← shiftLeft_four_or, ← and_0xF0_or, ← shiftRight_four, ← and_0x0F]
  rfl

/-- R364: `PV` is `iff2`. -/
theorem ldAIFlags_eq (v f : Byte) (iff2 : Bool) :
    ldAIFlags v f iff2 = flagsOf (v.getLsbD 7) (v == 0) (v.getLsbD 5) false (v.getLsbD 3) iff2 false (f.getLsbD 0) := by
  rw [ldAIFlags, and_flagC, sz53_eq, maskIf_flagPV]
  simp [flagsOf_or]


/-! ## The obligations -/

/-- Settles O21: `OUT (C),0` puts out the platform's byte. -/
theorem decidedEdEncodings : Obligations.DecidedEdEncodings := by
  intro s g bc
  refine ⟨?outC, fun y hy => ?im, fun x y z hy hz h => ?nop⟩
  case outC =>
    exact ran_does2 (outC_did _ _) rfl (by simp [g, bc, past_two_zero]) (by simp [bc, code_two_zero]) rfl
  case im =>
    refine ran_of_did2 (setMode_did _ _) (exec_im s hy) ?_
    simp [g, State.does, past_two_zero, code_two_zero]
  case nop =>
    rw [edTable_eq_nopEd hy hz h]
    exact ran_does2 (nop_did _) rfl (by simp [g, past_two_zero]) (code_two_zero s).symm rfl

/-- Settles O23: `R` and the wait at `IR` are those behind both fetches. -/
theorem interruptRegistersAndNibbleRotates : Obligations.InterruptRegistersAndNibbleRotates := by
  intro s g a c hl t wait loaded digit
  have waits : .fetch s.regs.pc :: .fetch (s.regs.pc + 1) :: [.wait s.fetch2.ir 1] = wait := by
    simp [wait, code_two_zero, State.irWait]
  refine ⟨?ldIA, ?ldRA, ?ldAI, ?ldAR, ?rrd, ?rld⟩
  case ldIA => exact ran_does2 (ldIA_did _) rfl (by simp [g, a, past_two_zero]) waits rfl
  case ldRA => exact ran_does2 (ldRA_did _) rfl (by simp [g, a, past_two_zero]) waits rfl
  case ldAI =>
    exact ran_does2 (ldAFrom_did _ _) rfl (by simp [loaded, g, c, past_two_zero, ldAIFlags_eq]) waits rfl
  case ldAR =>
    exact ran_does2 (ldAFrom_did _ _) rfl (by simp [loaded, g, c, past_two_zero, ldAIFlags_eq]) waits rfl
  case rrd =>
    exact ran_does2 (rotateDigit_did _ _ _) (congrArg Host.Outcome.next (rrd_eq s.fetch2))
      (by simp [a, c, hl, t, g, past_two_zero, inFlags_eq])
      (by simp [a, hl, t, code_two_zero, State.readModifyWrite]) rfl
  case rld =>
    exact ran_does2 (rotateDigit_did _ _ _) (congrArg Host.Outcome.next (rld_eq s.fetch2))
      (by simp [a, c, hl, t, g, past_two_zero, inFlags_eq])
      (by simp [a, hl, t, code_two_zero, State.readModifyWrite]) rfl

/-- Settles O27: the last two rows, where an iteration goes back while `B` is not 0. -/
theorem repeatedBlockInputAndOutput : Obligations.RepeatedBlockInputAndOutput := by
  intro s y hy hl next b flags g inPort input outPort
  have low : 4 ≤ y := by omega
  have high : y < 8 := by omega
  have repeats : decide (6 ≤ y) = true := decide_eq_true (by omega)
  refine ⟨?input, ?output⟩
  case input =>
    exact ran_loop (again' := b != 0) (blockIn_did _ (blockDir y) _) (exec_blockIn s low high)
      (by simp [repeats, b]) (by simp [hl])
      (by simp [g, flags, input, inPort, next, b, hl, past_two_zero, blockIoFlags_eq, Regs.set16])
      (by simp [hl, input, inPort, code_two_zero, State.irWait])
  case output =>
    exact ran_loop (again' := b != 0) (blockOut_did _ (blockDir y) _) (exec_blockOut s low high)
      (by simp [repeats, b]) (by simp [outPort, b])
      (by simp [g, flags, outPort, next, b, hl, past_two_zero, blockIoFlags_eq, Regs.set16])
      (by simp [hl, outPort, b, code_two_zero, State.irWait])

end Sys2Proof.Proofs.EdRemainder
end

/-! # Proofs: the pair forms of the index registers, prefixes without effect, and the DDCB and FDCB tables (47_ddfd.md
sections 2 and 5; 48_ddcb.md section 1) -/

section
open Sys2Proof Sys2Proof.Machine Sys2Proof.Proofs.OneFetch Sys2Proof.Proofs.TwoFetches Sys2Proof.Proofs.CbTable
open Sys2Proof.Proofs.EdTable Sys2Proof.Proofs.IndexTables Sys2Proof.Proofs.StackAndControl
open Sys2Proof.Proofs.Meanings

namespace Sys2Proof.Proofs.IndexRemainder

/-! ## The rows of list P -/

section
variable {p : Nat} (s : State) (ii : Idx)

theorem exec_addPair_idx (hp : p < 4) :
    exec (idxTable ii (opcode 0 (2 * p + 1) 1)) s = .next (addPair (idxReg ii) (rpx ii p) s.fetch2) := by
  interval_cases p <;> cases ii <;> rfl

theorem exec_ldPairImm_idx : exec (idxTable ii 0x21) s = .next (ldPairImm (idxReg ii) s.fetch2) := by cases ii <;> rfl

theorem exec_stPairAbs_idx : exec (idxTable ii 0x22) s = .next (stPairAbs (idxReg ii) s.fetch2) := by cases ii <;> rfl

theorem exec_ldPairAbs_idx : exec (idxTable ii 0x2A) s = .next (ldPairAbs (idxReg ii) s.fetch2) := by cases ii <;> rfl

theorem exec_incPair_idx : exec (idxTable ii 0x23) s = .next (incPair (idxReg ii) s.fetch2) := by cases ii <;> rfl

theorem exec_decPair_idx : exec (idxTable ii 0x2B) s = .next (decPair (idxReg ii) s.fetch2) := by cases ii <;> rfl

theorem exec_popPair_idx : exec (idxTable ii 0xE1) s = .next (popPair (idxReg ii) s.fetch2) := by cases ii <;> rfl

theorem exec_pushPair_idx : exec (idxTable ii 0xE5) s = .next (pushPair (idxReg ii) s.fetch2) := by cases ii <;> rfl

theorem exec_exSpPair_idx : exec (idxTable ii 0xE3) s = .next (exSpPair (idxReg ii) s.fetch2) := by cases ii <;> rfl

theorem exec_jpPair_idx : exec (idxTable ii 0xE9) s = .next (jpPair (idxReg ii) s.fetch2) := by cases ii <;> rfl

theorem exec_ldSpPair_idx : exec (idxTable ii 0xF9) s = .next (ldSpPair (idxReg ii) s.fetch2) := by cases ii <;> rfl

end

/-- An index register is written before or after `F` and `MEMPTR`. -/
theorem set16_idxReg_with_flags (g : Regs) (ii : Idx) (w m : Word) (f : Byte) :
    { g.set16 (idxReg ii) w with f := f, memptr := m } = Regs.set16 { g with memptr := m, f := f } (idxReg ii) w := by
  cases ii <;> rfl

/-- Settles O28: each is the operation of `HL`, on the index register, behind two fetches. -/
theorem indexRegisterForms : Obligations.IndexRegisterForms := by
  intro s ii g idx w nn sp
  refine ⟨fun p hp => ?add, ?ldImm, ?stAbs, ?ldAbs, ?inc, ?dec, ?pop, ?push, ?exSp, ?jp, ?ldSp⟩
  case add =>
    intro sum
    refine ran_does2 (addPair_did _ idx (rpx ii p)) (exec_addPair_idx s ii hp) ?_
      (by simp [code_two_zero, State.irWait]) rfl
    refine Eq.trans ?_ (set16_idxReg_with_flags ..).symm
    simp [g, sum, w, idx, past_two_zero]
  case ldImm =>
    exact ran_does2 (ldPairImm_did _ idx) (exec_ldPairImm_idx s ii) (by simp [nn, past_two_two])
      (by simp [code_two_two]) rfl
  case stAbs =>
    exact ran_does2 (stPairAbs_did _ idx) (exec_stPairAbs_idx s ii) (by simp [nn, past_two_two])
      (by simp [nn, w, code_two_two, wr16]) rfl
  case ldAbs =>
    exact ran_does2 (ldPairAbs_did _ idx) (exec_ldPairAbs_idx s ii) (by simp [nn, past_two_two])
      (by simp [nn, code_two_two, State.rd16]) rfl
  case inc =>
    exact ran_does2 (incPair_did _ idx) (exec_incPair_idx s ii) (by simp [g, w, past_two_zero])
      (by simp [code_two_zero, State.irWait]) rfl
  case dec =>
    exact ran_does2 (decPair_did _ idx) (exec_decPair_idx s ii) (by simp [g, w, past_two_zero])
      (by simp [code_two_zero, State.irWait]) rfl
  case pop =>
    exact ran_does2 (popPair_did _ idx) (exec_popPair_idx s ii) (by simp [g, sp, past_two_zero])
      (by simp [sp, code_two_zero, State.rd16]) rfl
  case push =>
    exact ran_does2 (pushPair_did _ idx) (exec_pushPair_idx s ii) (by simp [g, sp, past_two_zero])
      (by simp [sp, w, code_two_zero, State.irWait, pushed]) rfl
  case exSp =>
    exact ran_does2 (exSpPair_did _ idx) (exec_exSpPair_idx s ii) (by simp [g, sp, past_two_zero])
      (by simp [sp, w, code_two_zero, State.rd16]) rfl
  case jp =>
    exact ran_does2 (jpPair_did _ idx) (exec_jpPair_idx s ii) (by simp [g, w, past_two_zero]) (code_two_zero s).symm rfl
  case ldSp =>
    exact ran_does2 (ldSpPair_did _ idx) (exec_ldSpPair_idx s ii) (by simp [g, w, past_two_zero])
      (by simp [code_two_zero, State.irWait]) rfl

/-! ## The DDCB and FDCB tables -/

section
variable {y z : Nat} {x : Reg8} (s : State) (ii : Idx) (hy : y < 8)
include hy

theorem exec_rotIdx : exec (idxCbTable ii (opcode 0 y 6)) s = .next (rotIdx (rotOf y) ii s.fetch2) := by
  interval_cases y <;> cases ii <;> rfl

theorem exec_resIdx : exec (idxCbTable ii (opcode 2 y 6)) s = .next (resIdx y ii s.fetch2) := by
  interval_cases y <;> cases ii <;> rfl

theorem exec_setIdx : exec (idxCbTable ii (opcode 3 y 6)) s = .next (setIdx y ii s.fetch2) := by
  interval_cases y <;> cases ii <;> rfl

theorem exec_bitIdx (hz : z < 8) : exec (idxCbTable ii (opcode 1 y z)) s = .next (bitIdx y ii s.fetch2) := by
  interval_cases y <;> interval_cases z <;> cases ii <;> rfl

theorem exec_rotIdxReg (hz : r8 z = some x) :
    exec (idxCbTable ii (opcode 0 y z)) s = .next (rotIdxReg (rotOf y) x ii s.fetch2) := by
  have hz8 := lt_of_r8 hz
  interval_cases y <;> interval_cases z <;> cases hz <;> cases ii <;> rfl

theorem exec_resIdxReg (hz : r8 z = some x) :
    exec (idxCbTable ii (opcode 2 y z)) s = .next (resIdxReg y x ii s.fetch2) := by
  have hz8 := lt_of_r8 hz
  interval_cases y <;> interval_cases z <;> cases hz <;> cases ii <;> rfl

theorem exec_setIdxReg (hz : r8 z = some x) :
    exec (idxCbTable ii (opcode 3 y z)) s = .next (setIdxReg y x ii s.fetch2) := by
  have hz8 := lt_of_r8 hz
  interval_cases y <;> interval_cases z <;> cases hz <;> cases ii <;> rfl

end

/-- The cycles behind the two fetches that every row begins with: the displacement, the last opcode byte, the operand. -/
theorem idxCbCycles_fetch2 (s : State) (ii : Idx) :
    .fetch s.regs.pc :: .fetch (s.regs.pc + 1) :: idxCbCycles s.fetch2 ii =
      s.code 2 2 ++ [.wait (s.codeAddr 3) 2, s.rd (s.idxAddr ii), .wait (s.idxAddr ii) 1] := by
  simp [idxCbCycles, code_two_two, codeAddr_three]

/-- A row that writes the byte back. -/
theorem ran_writeIdx {s : State} {ii : Idx} {i : Instr} {o : AluOut} {g : Regs}
    (run : exec i s = .next (writeIdx ii o s.fetch2))
    (regs : { s.regs.past 2 2 with memptr := s.idxAddr ii, f := o.flags } = g) :
    s.Ran i (s.does g
      (s.code 2 2 ++ [.wait (s.codeAddr 3) 2, s.rd (s.idxAddr ii), .wait (s.idxAddr ii) 1] ++
        [.write (s.idxAddr ii) o.res]) 23) := by
  refine ran_does2 (writeIdx_did _ o ii) run ?_ ?_ rfl
  · simp [← regs, past_two_two]
  · simp [← idxCbCycles_fetch2]

/-- A row that writes the byte back and copies it to a register. -/
theorem ran_writeIdxReg {s : State} {ii : Idx} {i : Instr} {o : AluOut} {x : Reg8} {g : Regs}
    (run : exec i s = .next ((writeIdx ii o s.fetch2).setReg8 x o.res))
    (regs : Regs.set8 { s.regs.past 2 2 with memptr := s.idxAddr ii, f := o.flags } x o.res = g) :
    s.Ran i (s.does g
      (s.code 2 2 ++ [.wait (s.codeAddr 3) 2, s.rd (s.idxAddr ii), .wait (s.idxAddr ii) 1] ++
        [.write (s.idxAddr ii) o.res]) 23) := by
  refine ran_does2 (writeIdxReg_did _ o x ii) run ?_ ?_ rfl
  · simp [← regs, past_two_two]
  · simp [← idxCbCycles_fetch2]

/-- Settles O32: R counts the two fetches, and the last two bytes are operands. `RES` and `SET` write `F` as it was. -/
theorem indexedBitOperations : Obligations.IndexedBitOperations := by
  intro s ii y hy a v f g operand rot ends
  refine ⟨?rot, ?res, ?set, fun z hz => ?bit, fun z x hz => ⟨?rotReg, ?resReg, ?setReg⟩⟩
  case rot => exact ran_writeIdx (o := rot) (by simpa [rotIdx, rotIdxOut, rot, v, a, f] using exec_rotIdx s ii hy) rfl
  case res => exact ran_writeIdx (o := ⟨resBit y v, f⟩) (by simpa [resIdx, v, a, f] using exec_resIdx s ii hy) rfl
  case set => exact ran_writeIdx (o := ⟨setBit y v, f⟩) (by simpa [setIdx, v, a, f] using exec_setIdx s ii hy) rfl
  case bit =>
    refine ran_does2 (bitIdx_did _ y ii) (exec_bitIdx s ii hy hz) ?_ (idxCbCycles_fetch2 s ii) rfl
    simp [g, f, v, a, past_two_two]
  case rotReg =>
    exact ran_writeIdxReg (o := rot)
      (by simpa [rotIdxReg, rotIdx, rotIdxOut, rot, v, a, f] using exec_rotIdxReg s ii hy hz) rfl
  case resReg =>
    exact ran_writeIdxReg (o := ⟨resBit y v, f⟩)
      (by simpa [resIdxReg, resIdx, v, a, f] using exec_resIdxReg s ii hy hz) rfl
  case setReg =>
    exact ran_writeIdxReg (o := ⟨setBit y v, f⟩)
      (by simpa [setIdxReg, setIdx, v, a, f] using exec_setIdxReg s ii hy hz) rfl

/-! ## Prefixes without effect -/

/-- Each row outside the lists is the base row's operation behind one more fetch. -/
theorem exec_idxTable_outside {x y z : Nat} (hx : x < 4) (hy : y < 8) (hz : z < 8)
    (outside : (inIndexLists x y z || decide (opcode x y z ∈ [0xCB, 0xDD, 0xED, 0xFD])) = false) (ii : Idx) (s : State) :
    exec (idxTable ii (opcode x y z)) s = exec (baseTable (opcode x y z)) s.fetch := by
  interval_cases x <;> interval_cases y <;> interval_cases z <;> cases outside
  all_goals cases ii <;> exact Eq.trans (b := .next _) rfl rfl

/-- Settles O31. -/
theorem prefixesWithoutEffect : Obligations.PrefixesWithoutEffect := by
  intro s ii
  refine ⟨fun x y z hx hy hz notInLists noPrefix => ?base, fun op hop => ?prefixRow⟩
  case base =>
    obtain ⟨t, run, -⟩ := exec_completes (baseTable (opcode x y z)) s.fetch
    have outside : (inIndexLists x y z || decide (opcode x y z ∈ [0xCB, 0xDD, 0xED, 0xFD])) = false := by
      rw [notInLists, decide_eq_false noPrefix, Bool.or_false]
    exact ⟨t, (exec_idxTable_outside hx hy hz outside ii s).trans run, run⟩
  case prefixRow =>
    simp only [List.mem_cons, List.not_mem_nil, or_false] at hop
    have cycles := (code_one_zero s).symm
    obtain rfl | rfl | rfl | rfl := hop
    · exact ⟨ran_does (nop_did _) rfl rfl cycles rfl, fun no => absurd rfl no⟩
    all_goals
      refine ⟨ran_does (nop_did _) rfl rfl cycles rfl, fun _ => ran_does (nop_did _) ?_ rfl cycles rfl⟩
      cases ii <;> rfl

end Sys2Proof.Proofs.IndexRemainder
end

/-! # Proofs: canonical memory, reset and the host's calls (20_memory.md section 1; 10_state.md sections 5 and 6;
60_exceptions.md section 5) -/

section
open Sys2Proof Sys2Proof.Machine

namespace Sys2Proof.Proofs.ResetAndHost

/-! ## Memory -/

/-- No cell of a canonical memory is beyond the address space. -/
theorem read_beyond {lo a : Nat} {m : Memory} (w : Memory.wfFrom lo m = true) (h : 65536 ≤ a) :
    m.read a = unlistedByte := by
  induction m generalizing lo with
  | nil => rfl
  | cons c m ih =>
    simp only [Memory.wfFrom, Bool.and_eq_true, decide_eq_true_eq] at w
    obtain ⟨⟨⟨-, small⟩, -⟩, rest⟩ := w
    rw [Memory.read, if_neg (by omega), ih rest]

/-- Settles O42: beyond the address space both read as unlisted. -/
theorem memoryIsCanonical : Obligations.MemoryIsCanonical := by
  intro m n hm hn same
  refine Memory.ext_of_read hm hn fun a => ?_
  by_cases small : a < 65536
  · have := same (BitVec.ofNat 16 a)
    rwa [BitVec.toNat_ofNat, Nat.mod_eq_of_lt small] at this
  · rw [read_beyond hm (by omega), read_beyond hn (by omega)]

/-! ## Reset -/

/-- Settles O51: memory is empty, the counter 0 and nothing is recorded. -/
theorem resetMeetsTheInvariant : Obligations.ResetMeetsTheInvariant :=
  ⟨⟨rfl, rfl⟩, .nil, fun _ none => nomatch none⟩

theorem filled_get16 (fill : Word) (p : Reg16) : (Regs.filled fill).get16 p = fill := by
  cases p
  case sp => rfl
  all_goals exact mkWord_hiByte_loByte fill

/-- Settles O59. -/
theorem restart : Obligations.Restart := by
  refine fun s => ⟨s.restart, rfl, rfl, rfl, rfl, rfl, filled_get16 _, fun p alt => ?_, mkWord_hiByte_loByte 0,
    rfl, rfl, rfl, rfl, rfl, rfl⟩
  obtain rfl | rfl | rfl | rfl := alt
  all_goals exact mkWord_hiByte_loByte s.platform.resetFill

/-! ## The host's registers -/

theorem readPair_writePair_self (s : State) (p : HostPair) (w : Word) : (s.writePair p w).readPair p = w := by
  cases p <;> simp [State.readPair, State.writePair, State.ir, State.reg16, State.setReg16]

theorem readPair_writePair_other (s : State) {p q : HostPair} (w : Word) (h : q ≠ p) :
    (s.writePair p w).readPair q = s.readPair q := by
  cases p <;> cases q <;> simp [State.readPair, State.writePair, State.ir, State.reg16, State.setReg16, Regs.get16,
    Regs.set16] at h ⊢

theorem writePair_eq (s : State) (p : HostPair) (w : Word) :
    s.writePair p w = { s with regs := (s.writePair p w).regs, shadow := (s.writePair p w).shadow } := by
  cases p <;> rfl

theorem badMode {m : Nat} (h : 2 < m) : IntMode.ofNat? m = none := by
  match m, h with
  | _ + 3, _ => rfl

/-- Settles O60. -/
theorem hostCalls : Obligations.HostCalls := by
  refine fun s p q w m => ⟨⟨s.writePair p w, rfl, readPair_writePair_self s p w, readPair_writePair_other s w,
    writePair_eq s p w⟩, rfl, rfl, fun bad => ?_⟩
  rw [hostCall, badMode bad]

end Sys2Proof.Proofs.ResetAndHost
end

/-! # Proofs: the flags of additions and subtractions, as arithmetic (40_alu_tables.md section 5)

A table of R145 is asked for one bit of each operand and of the result. That is enough to tell the carry out of the
bit, and whether the signed result fits. A difference `r` of `a`, `v` and a borrow is the byte that with `v` and the
borrow sums to `a`, so the borrow of the difference is the carry of that sum. -/

section
open Sys2Proof Sys2Proof.Machine Sys2Proof.Proofs.FlagFunctions Sys2Proof.Proofs.BaseArithmetic
open Sys2Proof.Proofs.EdTable Sys2Proof.Proofs.EdBlock

namespace Sys2Proof.Proofs.ArithmeticFlags

/-! ## Carry and overflow at one bit

`x` and `y` are the operands up to the bit of weight `p`, `z` the sum of them and the carry-in there. -/

section
variable {p x y z c : Nat} (hx : x < 2 * p) (hy : y < 2 * p) (hz : z < 2 * p) (hc : c ≤ 1)
  (sum : z = x + y + c ∨ z + 2 * p = x + y + c)
include hx hy hz hc sum

theorem carry_of_bits :
    (bif decide (p ≤ x) then decide (p ≤ y) || !decide (p ≤ z) else decide (p ≤ y) && !decide (p ≤ z)) =
      decide (2 * p ≤ x + y + c) := by
  rw [Bool.eq_iff_iff]
  by_cases high : p ≤ x <;> simp [high] <;> omega

theorem borrow_of_bits :
    (bif decide (p ≤ z) then decide (p ≤ y) && decide (p ≤ x) else decide (p ≤ y) || decide (p ≤ x)) =
      decide (z < y + c) := by
  rw [Bool.eq_iff_iff]
  by_cases high : p ≤ z <;> simp [high] <;> omega

/-- The signed value of a number of which `p` is the top bit's weight. -/
theorem overflow_of_bits {v w : Int} (hv : v = if x < p then (x : Int) else x - 2 * p)
    (hw : w = if y < p then (y : Int) else y - 2 * p) :
    (bif decide (p ≤ x) then decide (p ≤ y) && !decide (p ≤ z) else !decide (p ≤ y) && decide (p ≤ z)) =
      (decide (v + w + c < -p) || decide ((p : Int) ≤ v + w + c)) := by
  rw [Bool.eq_iff_iff]
  by_cases xHigh : p ≤ x <;> by_cases yHigh : p ≤ y <;> split at hv <;> split at hw <;> simp [xHigh, yHigh] <;> omega

theorem overflowSub_of_bits {v w : Int} (hv : v = if z < p then (z : Int) else z - 2 * p)
    (hw : w = if y < p then (y : Int) else y - 2 * p) :
    (bif decide (p ≤ z) then !decide (p ≤ y) && !decide (p ≤ x) else decide (p ≤ y) && decide (p ≤ x)) =
      (decide (v - w - c < -p) || decide ((p : Int) ≤ v - w - c)) := by
  rw [Bool.eq_iff_iff]
  by_cases zHigh : p ≤ z <;> by_cases yHigh : p ≤ y <;> split at hv <;> split at hw <;> simp [zHigh, yHigh] <;> omega

end

/-- The value of the bits up to bit `k`, whose top bit is bit `k`. -/
theorem getLsbD_eq_decide {w : Nat} (a : BitVec w) (k : Nat) : a.getLsbD k = decide (2 ^ k ≤ a.toNat % 2 ^ (k + 1)) := by
  rw [BitVec.getLsbD, Nat.testBit_eq_decide_div_mod_eq, decide_eq_decide, Nat.pow_succ, Nat.mod_mul]
  have low := Nat.mod_lt a.toNat (Nat.two_pow_pos k)
  obtain bit | bit := Nat.mod_two_eq_zero_or_one (a.toNat / 2 ^ k) <;> rw [bit] <;> omega

theorem bitNat_le_one (c : Bool) : bitNat c ≤ 1 := by cases c <;> decide

/-- The sum up to a bit is that of the operands up to it, but for the carry. -/
theorem mod_sum {p n a v c : Nat} (dvd : 2 * p ∣ n) (hc : c ≤ 1) (pos : 0 < p) :
    (a + v + c) % n % (2 * p) = a % (2 * p) + v % (2 * p) + c ∨
      (a + v + c) % n % (2 * p) + 2 * p = a % (2 * p) + v % (2 * p) + c := by
  have small : (a + v + c) % (2 * p) = (a % (2 * p) + v % (2 * p) + c) % (2 * p) := by simp [Nat.add_mod]
  have ha := Nat.mod_lt a (by omega : 2 * p > 0)
  have hv := Nat.mod_lt v (by omega : 2 * p > 0)
  rw [Nat.mod_mod_of_dvd _ dvd, small]
  by_cases fits : a % (2 * p) + v % (2 * p) + c < 2 * p
  · exact .inl (Nat.mod_eq_of_lt fits)
  · rw [Nat.mod_eq_sub_mod (by omega), Nat.mod_eq_of_lt (by omega)]
    omega

/-! ## The same for the bits of words -/

section
variable {w k : Nat} {a v r : BitVec w} {c : Bool}

theorem mod_sum_of_eq (hk : k < w) (sum : r = BitVec.ofNat w (a.toNat + v.toNat + bitNat c)) :
    r.toNat % (2 * 2 ^ k) = a.toNat % (2 * 2 ^ k) + v.toNat % (2 * 2 ^ k) + bitNat c ∨
      r.toNat % (2 * 2 ^ k) + 2 * 2 ^ k = a.toNat % (2 * 2 ^ k) + v.toNat % (2 * 2 ^ k) + bitNat c := by
  rw [sum, BitVec.toNat_ofNat]
  refine mod_sum ?_ (bitNat_le_one c) (Nat.two_pow_pos k)
  rw [← Nat.pow_succ']
  exact Nat.pow_dvd_pow 2 hk

theorem mod_two_pow_lt (n k : Nat) : n % (2 * 2 ^ k) < 2 * 2 ^ k := Nat.mod_lt _ (by positivity)

theorem carry_of_sum (hk : k < w) (sum : r = BitVec.ofNat w (a.toNat + v.toNat + bitNat c)) :
    (bif a.getLsbD k then v.getLsbD k || !r.getLsbD k else v.getLsbD k && !r.getLsbD k) =
      decide (2 ^ (k + 1) ≤ a.toNat % 2 ^ (k + 1) + v.toNat % 2 ^ (k + 1) + bitNat c) := by
  simp only [getLsbD_eq_decide, Nat.pow_succ']
  exact carry_of_bits (mod_two_pow_lt _ k) (mod_two_pow_lt _ k) (mod_two_pow_lt _ k) (bitNat_le_one c) (mod_sum_of_eq hk sum)

theorem borrow_of_sum (hk : k < w) (sum : a = BitVec.ofNat w (r.toNat + v.toNat + bitNat c)) :
    (bif a.getLsbD k then v.getLsbD k && r.getLsbD k else v.getLsbD k || r.getLsbD k) =
      decide (a.toNat % 2 ^ (k + 1) < v.toNat % 2 ^ (k + 1) + bitNat c) := by
  simp only [getLsbD_eq_decide, Nat.pow_succ']
  exact borrow_of_bits (mod_two_pow_lt _ k) (mod_two_pow_lt _ k) (mod_two_pow_lt _ k) (bitNat_le_one c) (mod_sum_of_eq hk sum)

end

/-! Overflow is at the top bit. -/

section
variable {k : Nat} {a v r : BitVec (k + 1)} {c : Bool}

theorem toInt_eq_ite (a : BitVec (k + 1)) :
    a.toInt = if a.toNat % (2 * 2 ^ k) < 2 ^ k then ((a.toNat % (2 * 2 ^ k) : Nat) : Int)
      else (a.toNat % (2 * 2 ^ k) : Nat) - 2 * (2 ^ k : Nat) := by
  rw [← Nat.pow_succ', Nat.mod_eq_of_lt a.isLt, BitVec.toInt_eq_toNat_cond, Nat.pow_succ']
  split <;> split <;> omega

theorem overflows_eq (k : Nat) (n : Int) :
    overflows (k + 1) n = (decide (n < -(2 ^ k : Nat)) || decide (((2 ^ k : Nat) : Int) ≤ n)) := by
  simp [overflows]

theorem overflow_of_sum (sum : r = BitVec.ofNat (k + 1) (a.toNat + v.toNat + bitNat c)) :
    (bif a.getLsbD k then v.getLsbD k && !r.getLsbD k else !v.getLsbD k && r.getLsbD k) =
      overflows (k + 1) (a.toInt + v.toInt + bitNat c) := by
  rw [overflows_eq]
  simp only [getLsbD_eq_decide, Nat.pow_succ']
  exact overflow_of_bits (mod_two_pow_lt _ k) (mod_two_pow_lt _ k) (mod_two_pow_lt _ k) (bitNat_le_one c)
    (mod_sum_of_eq (Nat.lt_succ_self k) sum) (toInt_eq_ite a) (toInt_eq_ite v)

theorem overflowSub_of_sum (sum : a = BitVec.ofNat (k + 1) (r.toNat + v.toNat + bitNat c)) :
    (bif a.getLsbD k then !v.getLsbD k && !r.getLsbD k else v.getLsbD k && r.getLsbD k) =
      overflows (k + 1) (a.toInt - v.toInt - bitNat c) := by
  rw [overflows_eq]
  simp only [getLsbD_eq_decide, Nat.pow_succ']
  exact overflowSub_of_bits (mod_two_pow_lt _ k) (mod_two_pow_lt _ k) (mod_two_pow_lt _ k) (bitNat_le_one c)
    (mod_sum_of_eq (Nat.lt_succ_self k) sum) (toInt_eq_ite a) (toInt_eq_ite v)

end

/-! ## One more bit: the sum and the difference, whole -/

section
variable {w : Nat} (a v : BitVec w) (c : Bool)

theorem toNat_ofBool_setWidth (w : Nat) (c : Bool) : ((BitVec.ofBool c).setWidth (w + 1)).toNat = bitNat c := by
  have small : bitNat c < 2 ^ (w + 1) := Nat.lt_of_le_of_lt (bitNat_le_one c) (Nat.one_lt_two_pow (by omega))
  rw [BitVec.toNat_setWidth]
  cases c <;> exact Nat.mod_eq_of_lt small

theorem toNat_wideSum :
    (a.setWidth (w + 1) + v.setWidth (w + 1) + (BitVec.ofBool c).setWidth (w + 1)).toNat =
      a.toNat + v.toNat + bitNat c := by
  have ha := a.isLt
  have hv := v.isLt
  have hc := bitNat_le_one c
  have ha' : a.toNat < 2 ^ (w + 1) := by omega
  have hv' : v.toNat < 2 ^ (w + 1) := by omega
  rw [BitVec.toNat_add, BitVec.toNat_add, toNat_ofBool_setWidth, BitVec.toNat_setWidth, BitVec.toNat_setWidth,
    Nat.mod_eq_of_lt ha', Nat.mod_eq_of_lt hv', Nat.mod_add_mod, Nat.mod_eq_of_lt (by omega)]

theorem wideSum_getLsbD :
    (a.setWidth (w + 1) + v.setWidth (w + 1) + (BitVec.ofBool c).setWidth (w + 1)).getLsbD w =
      decide (2 ^ w ≤ a.toNat + v.toNat + bitNat c) := by
  rw [getLsbD_eq_decide, Nat.mod_eq_of_lt (BitVec.isLt _), toNat_wideSum]

theorem wideSum_setWidth :
    (a.setWidth (w + 1) + v.setWidth (w + 1) + (BitVec.ofBool c).setWidth (w + 1)).setWidth w =
      BitVec.ofNat w (a.toNat + v.toNat + bitNat c) := by
  rw [← BitVec.ofNat_toNat, toNat_wideSum]

/-- The difference in one more bit, where it is negative or not. -/
theorem toNat_wideDiff :
    let n : Int := a.toNat - v.toNat - bitNat c
    ((a.setWidth (w + 1) - v.setWidth (w + 1) - (BitVec.ofBool c).setWidth (w + 1)).toNat : Int) =
      if n < 0 then n + 2 * (2 ^ w : Nat) else n := by
  intro n
  have back : a.setWidth (w + 1) - v.setWidth (w + 1) - (BitVec.ofBool c).setWidth (w + 1) + v.setWidth (w + 1) +
      (BitVec.ofBool c).setWidth (w + 1) = a.setWidth (w + 1) := by
    rw [sub_right_comm, sub_add_cancel, sub_add_cancel]
  have ht := (a.setWidth (w + 1) - v.setWidth (w + 1) - (BitVec.ofBool c).setWidth (w + 1)).isLt
  generalize a.setWidth (w + 1) - v.setWidth (w + 1) - (BitVec.ofBool c).setWidth (w + 1) = t at *
  have ha := a.isLt
  have hv := v.isLt
  have hc := bitNat_le_one c
  have total := congrArg BitVec.toNat back
  rw [BitVec.toNat_add, BitVec.toNat_add, Nat.mod_add_mod, toNat_ofBool_setWidth, BitVec.toNat_setWidth_of_le (by omega),
    BitVec.toNat_setWidth_of_le (by omega)] at total
  rw [Nat.pow_succ'] at ht total
  by_cases fits : t.toNat + v.toNat + bitNat c < 2 * 2 ^ w
  · rw [Nat.mod_eq_of_lt fits] at total
    split <;> omega
  · rw [Nat.mod_eq_sub_mod (by omega), Nat.mod_eq_of_lt (by omega)] at total
    split <;> omega

theorem wideDiff_getLsbD :
    (a.setWidth (w + 1) - v.setWidth (w + 1) - (BitVec.ofBool c).setWidth (w + 1)).getLsbD w =
      decide ((a.toNat : Int) - v.toNat - bitNat c < 0) := by
  have value := toNat_wideDiff a v c
  have ha := a.isLt
  have hv := v.isLt
  have hc := bitNat_le_one c
  rw [getLsbD_eq_decide, Nat.mod_eq_of_lt (BitVec.isLt _), decide_eq_decide]
  dsimp only at value
  split at value <;> omega

theorem wideDiff_setWidth :
    (a.setWidth (w + 1) - v.setWidth (w + 1) - (BitVec.ofBool c).setWidth (w + 1)).setWidth w =
      BitVec.ofInt w (a.toNat - v.toNat - bitNat c) := by
  have value := toNat_wideDiff a v c
  have same : ((a.setWidth (w + 1) - v.setWidth (w + 1) - (BitVec.ofBool c).setWidth (w + 1)).toNat : Int) % (2 ^ w : Nat) =
      (a.toNat - v.toNat - bitNat c) % (2 ^ w : Nat) := by
    rw [value]
    split
    · simp
    · rfl
  rw [← BitVec.ofNat_toNat, ← BitVec.ofInt_natCast]
  apply BitVec.eq_of_toNat_eq
  rw [BitVec.toNat_ofInt, BitVec.toNat_ofInt, same]

/-- The difference, its subtrahend and the borrow sum to the minuend. -/
theorem sum_of_difference :
    a = BitVec.ofNat w ((BitVec.ofInt w (a.toNat - v.toNat - bitNat c)).toNat + v.toNat + bitNat c) := by
  rw [← BitVec.ofInt_natCast]
  push_cast
  rw [BitVec.ofInt_add, BitVec.ofInt_add, BitVec.ofInt_natCast, BitVec.ofNat_toNat, BitVec.setWidth_eq, ← BitVec.ofInt_add,
    ← BitVec.ofInt_add, sub_right_comm, sub_add_cancel, sub_add_cancel, BitVec.ofInt_natCast, BitVec.ofNat_toNat,
    BitVec.setWidth_eq]

end

/-! ## The tables of R145

What a table gives for an index of three bits, whichever operation made it. -/

/-- The index of R144 for the bits `x`, `y` of the operands and `z` of the result. -/
def tableIndex (x y z : Bool) : Byte := maskIf x 0b001 ||| maskIf y 0b010 ||| maskIf z 0b100

section
variable {i : Byte} {x y z : Bool} (h : i &&& 7 = tableIndex x y z)
include h

theorem halfCarryAdd_eq : halfCarryAdd i = maskIf (bif x then y || !z else y && !z) flagH := by
  rw [halfCarryAdd, h]
  cases x <;> cases y <;> cases z <;> rfl

theorem halfCarrySub_eq : halfCarrySub i = maskIf (bif x then y && z else y || z) flagH := by
  rw [halfCarrySub, h]
  cases x <;> cases y <;> cases z <;> rfl

theorem overflowAdd_eq : overflowAdd i = maskIf (bif x then y && !z else !y && z) flagPV := by
  rw [overflowAdd, h]
  cases x <;> cases y <;> cases z <;> rfl

theorem overflowSub_eq : overflowSub i = maskIf (bif x then !y && !z else y && z) flagPV := by
  rw [overflowSub, h]
  cases x <;> cases y <;> cases z <;> rfl

end

theorem nibbleIndex16_and_seven (a v t : Word) :
    nibbleIndex16 a v t &&& 7 = tableIndex (a.getLsbD 11) (v.getLsbD 11) (t.getLsbD 11) := by
  refine BitVec.eq_of_getLsbD_eq fun k hk => ?_
  simp only [nibbleIndex16, loByte, tableIndex, BitVec.getLsbD_and, BitVec.getLsbD_or, BitVec.getLsbD_ushiftRight,
    BitVec.getLsbD_extractLsb', maskIf_getLsbD]
  interval_cases k <;> simp

theorem nibbleIndex16_ushiftRight_and_seven (a v t : Word) :
    nibbleIndex16 a v t >>> 4 &&& 7 = tableIndex (a.getLsbD 15) (v.getLsbD 15) (t.getLsbD 15) := by
  refine BitVec.eq_of_getLsbD_eq fun k hk => ?_
  simp only [nibbleIndex16, loByte, tableIndex, BitVec.getLsbD_and, BitVec.getLsbD_or, BitVec.getLsbD_ushiftRight,
    BitVec.getLsbD_extractLsb', maskIf_getLsbD]
  interval_cases k <;> simp

/-! ## Bytes (R146 to R148) -/

/-- Settles O33. -/
theorem flagsOfAddition : Obligations.FlagsOfAddition := by
  intro a v c n r
  have half : halfCarryAdd (nibbleIndex a v r) =
      maskIf (decide (15 < a.toNat % 16 + v.toNat % 16 + bitNat c)) flagH :=
    (halfCarryAdd_eq (nibbleIndex_and_seven a v r)).trans (congrArg (maskIf · flagH) (carry_of_sum (by decide) rfl))
  have overflow : overflowAdd (nibbleIndex a v r >>> 4) =
      maskIf (overflows 8 (a.toInt + v.toInt + bitNat c)) flagPV :=
    (overflowAdd_eq (nibbleIndex_ushiftRight_and_seven a v r)).trans (congrArg (maskIf · flagPV) (overflow_of_sum rfl))
  have carry : (a.setWidth 9 + v.setWidth 9 + (BitVec.ofBool c).setWidth 9).getLsbD 8 = decide (255 < n) :=
    wideSum_getLsbD a v c
  have res : (a.setWidth 9 + v.setWidth 9 + (BitVec.ofBool c).setWidth 9).setWidth 8 = r := wideSum_setWidth a v c
  simp only [add8, res, carry, half, overflow, maskIf_flagC, maskIf_flagH, maskIf_flagPV, sz53_eq, flagsOf_or,
    Bool.false_or, Bool.or_false]

section
variable (a v : Byte) (c : Bool)

/-- R147, R148: the borrow out of bit 3, the overflow, the whole borrow, and the difference. -/
theorem difference8 :
    let n : Int := a.toNat - v.toNat - bitNat c
    let r := BitVec.ofInt 8 n
    halfCarrySub (nibbleIndex a v r) = maskIf (decide (a.toNat % 16 < v.toNat % 16 + bitNat c)) flagH ∧
    overflowSub (nibbleIndex a v r >>> 4) = maskIf (overflows 8 (a.toInt - v.toInt - bitNat c)) flagPV ∧
    (a.setWidth 9 - v.setWidth 9 - (BitVec.ofBool c).setWidth 9).getLsbD 8 = decide (n < 0) ∧
    (a.setWidth 9 - v.setWidth 9 - (BitVec.ofBool c).setWidth 9).setWidth 8 = r := by
  intro n r
  have sum := sum_of_difference a v c
  refine ⟨?half, ?overflow, wideDiff_getLsbD a v c, wideDiff_setWidth a v c⟩
  case half =>
    exact (halfCarrySub_eq (nibbleIndex_and_seven a v r)).trans
      (congrArg (maskIf · flagH) (borrow_of_sum (by decide) sum))
  case overflow =>
    exact (overflowSub_eq (nibbleIndex_ushiftRight_and_seven a v r)).trans
      (congrArg (maskIf · flagPV) (overflowSub_of_sum sum))

theorem sub8_eq :
    let n : Int := a.toNat - v.toNat - bitNat c
    let r := BitVec.ofInt 8 n
    sub8 a v c = ⟨r, flagsOf (r.getLsbD 7) (r == 0) (r.getLsbD 5) (decide (a.toNat % 16 < v.toNat % 16 + bitNat c))
      (r.getLsbD 3) (overflows 8 (a.toInt - v.toInt - bitNat c)) true (decide (n < 0))⟩ := by
  intro n r
  obtain ⟨half, overflow, borrow, res⟩ := difference8 a v c
  simp only [sub8, res, borrow, half, overflow, maskIf_flagC, maskIf_flagH, maskIf_flagPV, flagN_eq, sz53_eq, flagsOf_or,
    Bool.false_or, Bool.or_false]
  rfl

/-- A comparison is a subtraction without a borrow. -/
theorem difference8_eq_sub : BitVec.ofInt 8 ((a.toNat : Int) - v.toNat - bitNat false) = a - v := by
  have sum := sum_of_difference a v false
  generalize BitVec.ofInt 8 ((a.toNat : Int) - v.toNat - bitNat false) = r at *
  rw [bitNat, if_neg Bool.false_ne_true, Nat.add_zero, BitVec.ofNat_add, BitVec.ofNat_toNat, BitVec.ofNat_toNat,
    BitVec.setWidth_eq, BitVec.setWidth_eq] at sum
  exact eq_sub_of_add_eq sum.symm

theorem cp8_eq :
    cp8 a v = flagsOf ((a - v).getLsbD 7) (a == v) (v.getLsbD 5) (decide (a.toNat % 16 < v.toNat % 16)) (v.getLsbD 3)
      (overflows 8 (a.toInt - v.toInt)) true (decide (a.toNat < v.toNat)) := by
  obtain ⟨half, overflow, borrow, res⟩ := difference8 a v false
  rw [difference8_eq_sub] at half overflow res
  have wide : a.setWidth 9 - v.setWidth 9 - (BitVec.ofBool false).setWidth 9 = a.setWidth 9 - v.setWidth 9 := sub_zero _
  have zero : (a - v == 0) = (a == v) := by rw [Bool.eq_iff_iff, beq_iff_eq, beq_iff_eq, sub_eq_zero]
  rw [wide] at borrow res
  simp only [cp8, res, borrow, half, overflow, zero, maskIf_flagC, maskIf_flagH, maskIf_flagPV, maskIf_flagZ, flagN_eq,
    bits53_eq, and_flagS, flagsOf_or, Bool.false_or, Bool.or_false]
  simp [bitNat]

end

/-- Settles O34. -/
theorem flagsOfSubtraction : Obligations.FlagsOfSubtraction := fun a v c => ⟨sub8_eq a v c, cp8_eq a v⟩

/-! ## Words (R154 to R156) -/

/-- `S` and bits 5 and 3 from the high byte of a word. -/
theorem hiByte_and_flags (r : Word) :
    hiByte r &&& (flagS ||| flag5 ||| flag3) =
      flagsOf (r.getLsbD 15) false (r.getLsbD 13) false (r.getLsbD 11) false false false := by
  have bits : hiByte r &&& 0x28 = _ := bits53_eq (hiByte r)
  have mask : flagS ||| flag5 ||| flag3 = flagS ||| 0x28 := rfl
  rw [mask, BitVec.and_or_distrib_left, and_flagS, bits, flagsOf_or]
  simp [hiByte]

section
variable (a b : Word) (c : Bool)

/-- R154, R155: the carry out of bit 11, the overflow, the whole carry, and the sum. -/
theorem sum16 :
    let n := a.toNat + b.toNat + bitNat c
    let r := BitVec.ofNat 16 n
    halfCarryAdd (nibbleIndex16 a b r) = maskIf (decide (4095 < a.toNat % 4096 + b.toNat % 4096 + bitNat c)) flagH ∧
    overflowAdd (nibbleIndex16 a b r >>> 4) = maskIf (overflows 16 (a.toInt + b.toInt + bitNat c)) flagPV ∧
    (a.setWidth 17 + b.setWidth 17 + (BitVec.ofBool c).setWidth 17).getLsbD 16 = decide (65535 < n) ∧
    (a.setWidth 17 + b.setWidth 17 + (BitVec.ofBool c).setWidth 17).setWidth 16 = r := by
  intro n r
  refine ⟨?half, ?overflow, wideSum_getLsbD a b c, wideSum_setWidth a b c⟩
  case half =>
    exact (halfCarryAdd_eq (nibbleIndex16_and_seven a b r)).trans
      (congrArg (maskIf · flagH) (carry_of_sum (by decide) rfl))
  case overflow =>
    exact (overflowAdd_eq (nibbleIndex16_ushiftRight_and_seven a b r)).trans
      (congrArg (maskIf · flagPV) (overflow_of_sum rfl))

/-- R156: the borrow out of bit 11, the overflow, the whole borrow, and the difference. -/
theorem difference16 :
    let n : Int := a.toNat - b.toNat - bitNat c
    let r := BitVec.ofInt 16 n
    halfCarrySub (nibbleIndex16 a b r) = maskIf (decide (a.toNat % 4096 < b.toNat % 4096 + bitNat c)) flagH ∧
    overflowSub (nibbleIndex16 a b r >>> 4) = maskIf (overflows 16 (a.toInt - b.toInt - bitNat c)) flagPV ∧
    (a.setWidth 17 - b.setWidth 17 - (BitVec.ofBool c).setWidth 17).getLsbD 16 = decide (n < 0) ∧
    (a.setWidth 17 - b.setWidth 17 - (BitVec.ofBool c).setWidth 17).setWidth 16 = r := by
  intro n r
  have sum := sum_of_difference a b c
  refine ⟨?half, ?overflow, wideDiff_getLsbD a b c, wideDiff_setWidth a b c⟩
  case half =>
    exact (halfCarrySub_eq (nibbleIndex16_and_seven a b r)).trans
      (congrArg (maskIf · flagH) (borrow_of_sum (by decide) sum))
  case overflow =>
    exact (overflowSub_eq (nibbleIndex16_ushiftRight_and_seven a b r)).trans
      (congrArg (maskIf · flagPV) (overflowSub_of_sum sum))

end

/-- Settles O36: `ADD` is the sum without a carry, and keeps `S`, `Z` and `PV`. -/
theorem flagsOfPairArithmetic : Obligations.FlagsOfPairArithmetic := by
  intro a b f c sum n r m d
  refine ⟨?add, ?adc, ?sbc⟩
  case add =>
    obtain ⟨half, -, carry, res⟩ := sum16 a b false
    have wide : a.setWidth 17 + b.setWidth 17 + (BitVec.ofBool false).setWidth 17 = a.setWidth 17 + b.setWidth 17 :=
      add_zero _
    have plain : BitVec.ofNat 16 (a.toNat + b.toNat + bitNat false) = sum := by
      simp [bitNat, sum, BitVec.ofNat_add]
    rw [plain] at half res
    rw [wide] at carry res
    simp only [add16, res, carry, half, and_flagsSZPV, bits53_eq, maskIf_flagC, maskIf_flagH, flagsOf_or, Bool.false_or,
      Bool.or_false]
    simp [bitNat, hiByte]
  case adc =>
    obtain ⟨half, overflow, carry, res⟩ := sum16 a b c
    have carryIn : carryOf f = c := rfl
    simp only [adc16, carryIn, res, carry, half, overflow, hiByte_and_flags, maskIf_flagC, maskIf_flagH, maskIf_flagPV,
      maskIf_flagZ, flagsOf_or, Bool.false_or, Bool.or_false]
    rfl
  case sbc =>
    obtain ⟨half, overflow, borrow, res⟩ := difference16 a b c
    have carryIn : carryOf f = c := rfl
    simp only [sbc16, carryIn, res, borrow, half, overflow, hiByte_and_flags, maskIf_flagC, maskIf_flagH, maskIf_flagPV,
      maskIf_flagZ, flagN_eq, flagsOf_or, Bool.false_or, Bool.or_false]
    rfl

/-! ## Decimal adjust (R249) -/

section
variable (s z b5 h b3 pv n c : Bool)

theorem flagsOf_bit0 : (flagsOf s z b5 h b3 pv n c).getLsbD 0 = c := by
  simp only [flagsOf, BitVec.getLsbD_or, maskIf_getLsbD]
  simp [flagS, flagZ, flag5, flagH, flag3, flagPV, flagN, flagC]

theorem flagsOf_bit1 : (flagsOf s z b5 h b3 pv n c).getLsbD 1 = n := by
  simp only [flagsOf, BitVec.getLsbD_or, maskIf_getLsbD]
  simp [flagS, flagZ, flag5, flagH, flag3, flagPV, flagN, flagC]

theorem flagsOf_bit4 : (flagsOf s z b5 h b3 pv n c).getLsbD 4 = h := by
  simp only [flagsOf, BitVec.getLsbD_or, maskIf_getLsbD]
  simp [flagS, flagZ, flag5, flagH, flag3, flagPV, flagN, flagC]

end

/-- What `DAA` adds or subtracts: 6 for a digit that left its range, in each nibble. -/
def correction (half carry : Bool) (a : Nat) : Nat :=
  (if half || decide (9 < a % 16) then 6 else 0) + (if carry || decide (153 < a) then 96 else 0)

section
variable (a f : Byte)

theorem correction_toNat :
    (if carryOf f || decide (a.toNat > 0x99) then
      (if f.getLsbD 4 || decide ((a &&& 0x0F).toNat > 9) then 0x06 else (0 : Byte)) ||| 0x60
     else if f.getLsbD 4 || decide ((a &&& 0x0F).toNat > 9) then 0x06 else (0 : Byte)).toNat =
      correction (f.getLsbD 4) (f.getLsbD 0) a.toNat := by
  rw [toNat_and_0x0F, carryOf, correction]
  split <;> split <;> rfl

theorem daaOut_carry : (daaOut a f).flags.getLsbD 0 = (f.getLsbD 0 || decide (153 < a.toNat)) := by
  simp only [daaOut, parity, BitVec.getLsbD_or, BitVec.getLsbD_and, BitVec.getLsbD_not, maskIf_getLsbD, carryOf]
  simp [flagC, flagPV]

variable {a f}

theorem daaOut_res_add (h : f.getLsbD 1 = false) :
    (daaOut a f).res = BitVec.ofNat 8 (a.toNat + correction (f.getLsbD 4) (f.getLsbD 0) a.toNat) := by
  rw [← correction_toNat, daaOut, h]
  exact congrArg AluOut.res (flagsOfAddition a _ false)

theorem daaOut_res_sub (h : f.getLsbD 1 = true) :
    (daaOut a f).res = BitVec.ofInt 8 (a.toNat - correction (f.getLsbD 4) (f.getLsbD 0) a.toNat) := by
  rw [← correction_toNat, daaOut, h, if_pos rfl]
  refine (congrArg AluOut.res (sub8_eq a _ false)).trans ?_
  simp [bitNat]

end

/-- Two decimal digits in a byte. -/
def bcd (k : Nat) : Byte := BitVec.ofNat 8 (k / 10 * 16 + k % 10)

theorem bcd_toNat {k : Nat} (h : k < 100) : (bcd k).toNat = k / 10 * 16 + k % 10 := by
  rw [bcd, BitVec.toNat_ofNat]
  omega

/-! The digits of the operands come in by their sum or difference alone: `s` is that of the tens, `l` that of the units
and the carry, both from 0 on. -/

theorem corrected_sum_digits : ∀ s, s < 19 → ∀ l, l < 20 →
    ((16 * s + l) % 256 + correction (decide (15 < l)) (decide (255 < 16 * s + l)) ((16 * s + l) % 256)) % 256 =
      (10 * s + l) % 100 / 10 * 16 + (10 * s + l) % 100 % 10 ∧
    (decide (255 < 16 * s + l) || decide (153 < (16 * s + l) % 256)) = decide (99 < 10 * s + l) := by
  decide +kernel

theorem corrected_difference_digits : ∀ s, s < 19 → ∀ l, l < 20 →
    ((16 * s + l + 102) % 256 + 256 -
        correction (decide (l < 10)) (decide (16 * s + l < 154)) ((16 * s + l + 102) % 256)) % 256 =
      (10 * s + l) % 100 / 10 * 16 + (10 * s + l) % 100 % 10 ∧
    (decide (16 * s + l < 154) || decide (153 < (16 * s + l + 102) % 256)) = decide (10 * s + l < 100) := by
  decide +kernel

section
variable {m n : Nat} (c : Bool) (hm : m < 100) (hn : n < 100)
include hm hn

theorem daa_sum :
    let sum := add8 (bcd m) (bcd n) c
    let up := daaOut sum.res sum.flags
    up.res = bcd ((m + n + bitNat c) % 100) ∧ up.flags.getLsbD 0 = decide (99 < m + n + bitNat c) := by
  intro sum up
  have hc := bitNat_le_one c
  have sumEq : sum = _ := flagsOfAddition (bcd m) (bcd n) c
  obtain ⟨digits, carryDigit⟩ := corrected_sum_digits (m / 10 + n / 10) (by omega) (m % 10 + n % 10 + bitNat c) (by omega)
  have decimal : 10 * (m / 10 + n / 10) + (m % 10 + n % 10 + bitNat c) = m + n + bitNat c := by omega
  have packed : (bcd m).toNat + (bcd n).toNat + bitNat c = 16 * (m / 10 + n / 10) + (m % 10 + n % 10 + bitNat c) := by
    rw [bcd_toNat hm, bcd_toNat hn]
    omega
  have units : (bcd m).toNat % 16 + (bcd n).toNat % 16 + bitNat c = m % 10 + n % 10 + bitNat c := by
    rw [bcd_toNat hm, bcd_toNat hn]
    omega
  have half : sum.flags.getLsbD 4 = decide (15 < m % 10 + n % 10 + bitNat c) := by rw [sumEq, flagsOf_bit4, units]
  have carry : sum.flags.getLsbD 0 = decide (255 < 16 * (m / 10 + n / 10) + (m % 10 + n % 10 + bitNat c)) := by
    rw [sumEq, flagsOf_bit0, packed]
  have added : sum.flags.getLsbD 1 = false := by rw [sumEq, flagsOf_bit1]
  have res : sum.res.toNat = (16 * (m / 10 + n / 10) + (m % 10 + n % 10 + bitNat c)) % 256 := by
    rw [sumEq, packed, BitVec.toNat_ofNat]
  rw [decimal] at digits carryDigit
  refine ⟨?_, ?_⟩
  · rw [daaOut_res_add added, res, half, carry, bcd, ← digits]
    exact BitVec.eq_of_toNat_eq (by simp)
  · rw [daaOut_carry, res, carry, carryDigit]

theorem daa_difference :
    let diff := sub8 (bcd m) (bcd n) c
    let down := daaOut diff.res diff.flags
    down.res = bcd ((100 + m - n - bitNat c) % 100) ∧ down.flags.getLsbD 0 = decide (m < n + bitNat c) := by
  intro diff down
  have hc := bitNat_le_one c
  have diffEq : diff = _ := sub8_eq (bcd m) (bcd n) c
  obtain ⟨digits, carryDigit⟩ :=
    corrected_difference_digits (9 + m / 10 - n / 10) (by omega) (10 + m % 10 - n % 10 - bitNat c) (by omega)
  have decimal : 10 * (9 + m / 10 - n / 10) + (10 + m % 10 - n % 10 - bitNat c) = 100 + m - n - bitNat c := by omega
  have half : diff.flags.getLsbD 4 = decide (10 + m % 10 - n % 10 - bitNat c < 10) := by
    rw [diffEq, flagsOf_bit4, bcd_toNat hm, bcd_toNat hn, decide_eq_decide]
    omega
  have carry : diff.flags.getLsbD 0 =
      decide (16 * (9 + m / 10 - n / 10) + (10 + m % 10 - n % 10 - bitNat c) < 154) := by
    rw [diffEq, flagsOf_bit0, bcd_toNat hm, bcd_toNat hn, decide_eq_decide]
    omega
  have subtracted : diff.flags.getLsbD 1 = true := by rw [diffEq, flagsOf_bit1]
  have res : diff.res.toNat = (16 * (9 + m / 10 - n / 10) + (10 + m % 10 - n % 10 - bitNat c) + 102) % 256 := by
    rw [diffEq, BitVec.toNat_ofInt, bcd_toNat hm, bcd_toNat hn]
    omega
  rw [decimal] at digits carryDigit
  refine ⟨?_, ?_⟩
  · rw [daaOut_res_sub subtracted, half, carry, bcd, ← digits]
    apply BitVec.eq_of_toNat_eq
    have small : correction (decide (10 + m % 10 - n % 10 - bitNat c < 10))
      (decide (16 * (9 + m / 10 - n / 10) + (10 + m % 10 - n % 10 - bitNat c) < 154)) diff.res.toNat ≤ 102 := by
      unfold correction
      split <;> split <;> omega
    rw [BitVec.toNat_ofInt, BitVec.toNat_ofNat, ← res]
    omega
  · rw [daaOut_carry, res, carry, carryDigit, decide_eq_decide]
    omega

end

/-- Settles O37. -/
theorem decimalAdjustIsDecimal : Obligations.DecimalAdjustIsDecimal := by
  intro m n c hm hn
  obtain ⟨up, upCarry⟩ := daa_sum c hm hn
  obtain ⟨down, downCarry⟩ := daa_difference c hm hn
  exact ⟨up, upCarry, down, downCarry⟩

end Sys2Proof.Proofs.ArithmeticFlags
end
